-- ==== Sys2Proof/Word.lean ====
section
/-! DEFINITION. The words of the block: every input is one 32-bit value (00_scope.md R8, R13). -/

namespace Sys2Proof

/-- An instruction word, or a raw Config or Status value: 32 bits, bit 31 the most significant (R8, R10). -/
abbrev Word := BitVec 32

end Sys2Proof
end

