-- ==== Sys2Proof/Machine/Operands.lean ====
section
/-! DEFINITION. The operand fields: the slices of an instruction word (30_encoding.md R81, 40_instruction_decoder.md
R101 to R109) and of a raw Config or Status value (10_state.md R25, R28). -/

namespace Sys2Proof.Machine

/-- `w[31:26]`, the raw primary opcode (R101). -/
def opcodeField (w : Word) : BitVec 6 := w.extractLsb' 26 6

/-- `w[25:21]` (R103). -/
def rsField (w : Word) : BitVec 5 := w.extractLsb' 21 5

/-- `w[20:16]` (R104). -/
def rtField (w : Word) : BitVec 5 := w.extractLsb' 16 5

/-- `w[15:11]` (R105), the top five bits of the immediate. -/
def rdField (w : Word) : BitVec 5 := w.extractLsb' 11 5

/-- `w[15:0]`, unsigned, neither scaled nor shifted (R83, R106). -/
def immField (w : Word) : BitVec 16 := w.extractLsb' 0 16

/-- The second name of `immField` (R17, R107). -/
def offsetField (w : Word) : BitVec 16 := immField w

/-- `sext_64(w[15:0])` (R108). -/
def immSignExtendedField (w : Word) : BitVec 64 := (immField w).signExtend 64

/-- The second name of `immSignExtendedField` (R17, R109). -/
def offsetSignExtendedField (w : Word) : BitVec 64 := immSignExtendedField w

/-- Config bits 27:24, the data-transfer-pattern code (R25). -/
def configPatternField (raw : Word) : BitVec 4 := raw.extractLsb' 24 4

/-- Config bits 2:0, the kseg0 cache code (R25). -/
def configKseg0Field (raw : Word) : BitVec 3 := raw.extractLsb' 0 3

/-- Status bits 4:3, the KSU code (R28). -/
def statusModeField (raw : Word) : BitVec 2 := raw.extractLsb' 3 2

end Sys2Proof.Machine
end

