-- ==== Sys2Proof/Syntax.lean ====
section
/-! DEFINITION. What the owner invokes: the operation selectors, an invocation, and `Instr`, one constructor for each
row of spec/opcode_table.json. -/

namespace Sys2Proof

/-- Which operation an invocation names. The 17 operation rows of opcode_table.json have `match` 0 and accept every word
(30_encoding.md R89), so the owner's choice of operation is no part of the word (10_state.md R20). `fetched` is the
instruction decoder given a word by the fetch stage, all its outputs at once (40_instruction_decoder.md R100).
DESIGN CHOICE, log 9. -/
inductive Operation where
  | fetched
  | opcode | rs | rt | rd | imm | offset | immSignExtended | offsetSignExtended
  | configDecode | configLoad | powerOnReset | write
  | statusDecode | diagnosticStatusDecode | interruptMaskDecode | statusLoad | modeDecode
deriving DecidableEq, Repr

/-- One invocation by the owner: an operation and the word on its input port (R20, R89). `power_on_reset` has no port;
its word is 0 in a well-formed invocation. -/
structure Invocation where
  operation : Operation
  word : Word
deriving DecidableEq, Repr

/-- One constructor for each row of spec/opcode_table.json. The 17 operation rows take their input word. The 57
primary-opcode rows take the fields that every word has, whatever its opcode (R82): `rs`, `rt` and `imm`, whose top five
bits are `rd` (R105). -/
inductive Instr where
  | opcode (w : Word)
  | rs (w : Word)
  | rt (w : Word)
  | rd (w : Word)
  | imm (w : Word)
  | offset (w : Word)
  | immSignExtended (w : Word)
  | offsetSignExtended (w : Word)
  | configDecode (raw : Word)
  | configLoad (raw : Word)
  | powerOnReset
  | write (data : Word)
  | statusDecode (raw : Word)
  | diagnosticStatusDecode (raw : Word)
  | interruptMaskDecode (raw : Word)
  | statusLoad (raw : Word)
  | modeDecode (raw : Word)
  | special (rs rt : BitVec 5) (imm : BitVec 16)
  | regimm (rs rt : BitVec 5) (imm : BitVec 16)
  | j (rs rt : BitVec 5) (imm : BitVec 16)
  | jal (rs rt : BitVec 5) (imm : BitVec 16)
  | beq (rs rt : BitVec 5) (imm : BitVec 16)
  | bne (rs rt : BitVec 5) (imm : BitVec 16)
  | blez (rs rt : BitVec 5) (imm : BitVec 16)
  | bgtz (rs rt : BitVec 5) (imm : BitVec 16)
  | addi (rs rt : BitVec 5) (imm : BitVec 16)
  | addiu (rs rt : BitVec 5) (imm : BitVec 16)
  | slti (rs rt : BitVec 5) (imm : BitVec 16)
  | sltiu (rs rt : BitVec 5) (imm : BitVec 16)
  | andi (rs rt : BitVec 5) (imm : BitVec 16)
  | ori (rs rt : BitVec 5) (imm : BitVec 16)
  | xori (rs rt : BitVec 5) (imm : BitVec 16)
  | lui (rs rt : BitVec 5) (imm : BitVec 16)
  | cop0 (rs rt : BitVec 5) (imm : BitVec 16)
  | cop1 (rs rt : BitVec 5) (imm : BitVec 16)
  | cop2 (rs rt : BitVec 5) (imm : BitVec 16)
  | beql (rs rt : BitVec 5) (imm : BitVec 16)
  | bnel (rs rt : BitVec 5) (imm : BitVec 16)
  | blezl (rs rt : BitVec 5) (imm : BitVec 16)
  | bgtzl (rs rt : BitVec 5) (imm : BitVec 16)
  | daddi (rs rt : BitVec 5) (imm : BitVec 16)
  | daddiu (rs rt : BitVec 5) (imm : BitVec 16)
  | ldl (rs rt : BitVec 5) (imm : BitVec 16)
  | ldr (rs rt : BitVec 5) (imm : BitVec 16)
  | lb (rs rt : BitVec 5) (imm : BitVec 16)
  | lh (rs rt : BitVec 5) (imm : BitVec 16)
  | lwl (rs rt : BitVec 5) (imm : BitVec 16)
  | lw (rs rt : BitVec 5) (imm : BitVec 16)
  | lbu (rs rt : BitVec 5) (imm : BitVec 16)
  | lhu (rs rt : BitVec 5) (imm : BitVec 16)
  | lwr (rs rt : BitVec 5) (imm : BitVec 16)
  | lwu (rs rt : BitVec 5) (imm : BitVec 16)
  | sb (rs rt : BitVec 5) (imm : BitVec 16)
  | sh (rs rt : BitVec 5) (imm : BitVec 16)
  | swl (rs rt : BitVec 5) (imm : BitVec 16)
  | sw (rs rt : BitVec 5) (imm : BitVec 16)
  | sdl (rs rt : BitVec 5) (imm : BitVec 16)
  | sdr (rs rt : BitVec 5) (imm : BitVec 16)
  | swr (rs rt : BitVec 5) (imm : BitVec 16)
  | cache (rs rt : BitVec 5) (imm : BitVec 16)
  | ll (rs rt : BitVec 5) (imm : BitVec 16)
  | lwc1 (rs rt : BitVec 5) (imm : BitVec 16)
  | lwc2 (rs rt : BitVec 5) (imm : BitVec 16)
  | lld (rs rt : BitVec 5) (imm : BitVec 16)
  | ldc1 (rs rt : BitVec 5) (imm : BitVec 16)
  | ldc2 (rs rt : BitVec 5) (imm : BitVec 16)
  | ld (rs rt : BitVec 5) (imm : BitVec 16)
  | sc (rs rt : BitVec 5) (imm : BitVec 16)
  | swc1 (rs rt : BitVec 5) (imm : BitVec 16)
  | swc2 (rs rt : BitVec 5) (imm : BitVec 16)
  | scd (rs rt : BitVec 5) (imm : BitVec 16)
  | sdc1 (rs rt : BitVec 5) (imm : BitVec 16)
  | sdc2 (rs rt : BitVec 5) (imm : BitVec 16)
  | sd (rs rt : BitVec 5) (imm : BitVec 16)
deriving DecidableEq, Repr

end Sys2Proof
end

