-- ==== Sys2Proof/Decode.lean ====
section
/-! DEFINITION. From an invocation to the row of opcode_table.json it stands for, and back: total, rejecting by name. -/

namespace Sys2Proof

open Sys2Proof.Machine

/-- Why a word is no row of the table. -/
inductive DecodeRefusal where
  /-- A fetched word whose primary opcode has no row in opcode_table.json: 19, 28 to 31, 51 and 59 (R86). Safe: `step`
  still presents the word to the decoder (Step.lean), which looks the opcode up in the parameter OpcodeTable (R102). -/
  | unlistedOpcode (op : BitVec 6)
  /-- A word of more than 32 bits, or a value that does not fit its width: there is one length (R80). Safe. -/
  | notAWord (nbits : Nat)
deriving DecidableEq, Repr

/-- The primary-opcode row of a fetched word, by bits 31:26 (R85, R89). -/
def decodePrimary (w : Word) : Option Instr :=
  match (opcodeField w).toNat with
  | 0 => some (.special (rsField w) (rtField w) (immField w))
  | 1 => some (.regimm (rsField w) (rtField w) (immField w))
  | 2 => some (.j (rsField w) (rtField w) (immField w))
  | 3 => some (.jal (rsField w) (rtField w) (immField w))
  | 4 => some (.beq (rsField w) (rtField w) (immField w))
  | 5 => some (.bne (rsField w) (rtField w) (immField w))
  | 6 => some (.blez (rsField w) (rtField w) (immField w))
  | 7 => some (.bgtz (rsField w) (rtField w) (immField w))
  | 8 => some (.addi (rsField w) (rtField w) (immField w))
  | 9 => some (.addiu (rsField w) (rtField w) (immField w))
  | 10 => some (.slti (rsField w) (rtField w) (immField w))
  | 11 => some (.sltiu (rsField w) (rtField w) (immField w))
  | 12 => some (.andi (rsField w) (rtField w) (immField w))
  | 13 => some (.ori (rsField w) (rtField w) (immField w))
  | 14 => some (.xori (rsField w) (rtField w) (immField w))
  | 15 => some (.lui (rsField w) (rtField w) (immField w))
  | 16 => some (.cop0 (rsField w) (rtField w) (immField w))
  | 17 => some (.cop1 (rsField w) (rtField w) (immField w))
  | 18 => some (.cop2 (rsField w) (rtField w) (immField w))
  | 20 => some (.beql (rsField w) (rtField w) (immField w))
  | 21 => some (.bnel (rsField w) (rtField w) (immField w))
  | 22 => some (.blezl (rsField w) (rtField w) (immField w))
  | 23 => some (.bgtzl (rsField w) (rtField w) (immField w))
  | 24 => some (.daddi (rsField w) (rtField w) (immField w))
  | 25 => some (.daddiu (rsField w) (rtField w) (immField w))
  | 26 => some (.ldl (rsField w) (rtField w) (immField w))
  | 27 => some (.ldr (rsField w) (rtField w) (immField w))
  | 32 => some (.lb (rsField w) (rtField w) (immField w))
  | 33 => some (.lh (rsField w) (rtField w) (immField w))
  | 34 => some (.lwl (rsField w) (rtField w) (immField w))
  | 35 => some (.lw (rsField w) (rtField w) (immField w))
  | 36 => some (.lbu (rsField w) (rtField w) (immField w))
  | 37 => some (.lhu (rsField w) (rtField w) (immField w))
  | 38 => some (.lwr (rsField w) (rtField w) (immField w))
  | 39 => some (.lwu (rsField w) (rtField w) (immField w))
  | 40 => some (.sb (rsField w) (rtField w) (immField w))
  | 41 => some (.sh (rsField w) (rtField w) (immField w))
  | 42 => some (.swl (rsField w) (rtField w) (immField w))
  | 43 => some (.sw (rsField w) (rtField w) (immField w))
  | 44 => some (.sdl (rsField w) (rtField w) (immField w))
  | 45 => some (.sdr (rsField w) (rtField w) (immField w))
  | 46 => some (.swr (rsField w) (rtField w) (immField w))
  | 47 => some (.cache (rsField w) (rtField w) (immField w))
  | 48 => some (.ll (rsField w) (rtField w) (immField w))
  | 49 => some (.lwc1 (rsField w) (rtField w) (immField w))
  | 50 => some (.lwc2 (rsField w) (rtField w) (immField w))
  | 52 => some (.lld (rsField w) (rtField w) (immField w))
  | 53 => some (.ldc1 (rsField w) (rtField w) (immField w))
  | 54 => some (.ldc2 (rsField w) (rtField w) (immField w))
  | 55 => some (.ld (rsField w) (rtField w) (immField w))
  | 56 => some (.sc (rsField w) (rtField w) (immField w))
  | 57 => some (.swc1 (rsField w) (rtField w) (immField w))
  | 58 => some (.swc2 (rsField w) (rtField w) (immField w))
  | 60 => some (.scd (rsField w) (rtField w) (immField w))
  | 61 => some (.sdc1 (rsField w) (rtField w) (immField w))
  | 62 => some (.sdc2 (rsField w) (rtField w) (immField w))
  | 63 => some (.sd (rsField w) (rtField w) (immField w))
  | _ => none

/-- The row that an invocation stands for. -/
def decode (inv : Invocation) : Except DecodeRefusal Instr :=
  match inv.operation with
  | .fetched =>
    match decodePrimary inv.word with
    | some i => .ok i
    | none => .error (.unlistedOpcode (opcodeField inv.word))
  | .opcode => .ok (.opcode inv.word)
  | .rs => .ok (.rs inv.word)
  | .rt => .ok (.rt inv.word)
  | .rd => .ok (.rd inv.word)
  | .imm => .ok (.imm inv.word)
  | .offset => .ok (.offset inv.word)
  | .immSignExtended => .ok (.immSignExtended inv.word)
  | .offsetSignExtended => .ok (.offsetSignExtended inv.word)
  | .configDecode => .ok (.configDecode inv.word)
  | .configLoad => .ok (.configLoad inv.word)
  | .powerOnReset => .ok .powerOnReset
  | .write => .ok (.write inv.word)
  | .statusDecode => .ok (.statusDecode inv.word)
  | .diagnosticStatusDecode => .ok (.diagnosticStatusDecode inv.word)
  | .interruptMaskDecode => .ok (.interruptMaskDecode inv.word)
  | .statusLoad => .ok (.statusLoad inv.word)
  | .modeDecode => .ok (.modeDecode inv.word)

/-- The instruction word with the given fields, `{o, a, b, i}` (R81, R112). -/
def assemble (op : BitVec 6) (rs rt : BitVec 5) (imm : BitVec 16) : Word :=
  op ++ rs ++ rt ++ imm

/-- The invocation of a row: its selector, and its word as R81, R85 and R89 lay it out. -/
def encode (i : Instr) : Invocation :=
  match i with
  | .opcode w => ⟨.opcode, w⟩
  | .rs w => ⟨.rs, w⟩
  | .rt w => ⟨.rt, w⟩
  | .rd w => ⟨.rd, w⟩
  | .imm w => ⟨.imm, w⟩
  | .offset w => ⟨.offset, w⟩
  | .immSignExtended w => ⟨.immSignExtended, w⟩
  | .offsetSignExtended w => ⟨.offsetSignExtended, w⟩
  | .configDecode w => ⟨.configDecode, w⟩
  | .configLoad w => ⟨.configLoad, w⟩
  | .powerOnReset => ⟨.powerOnReset, 0⟩
  | .write w => ⟨.write, w⟩
  | .statusDecode w => ⟨.statusDecode, w⟩
  | .diagnosticStatusDecode w => ⟨.diagnosticStatusDecode, w⟩
  | .interruptMaskDecode w => ⟨.interruptMaskDecode, w⟩
  | .statusLoad w => ⟨.statusLoad, w⟩
  | .modeDecode w => ⟨.modeDecode, w⟩
  | .special rs rt imm => ⟨.fetched, assemble 0 rs rt imm⟩
  | .regimm rs rt imm => ⟨.fetched, assemble 1 rs rt imm⟩
  | .j rs rt imm => ⟨.fetched, assemble 2 rs rt imm⟩
  | .jal rs rt imm => ⟨.fetched, assemble 3 rs rt imm⟩
  | .beq rs rt imm => ⟨.fetched, assemble 4 rs rt imm⟩
  | .bne rs rt imm => ⟨.fetched, assemble 5 rs rt imm⟩
  | .blez rs rt imm => ⟨.fetched, assemble 6 rs rt imm⟩
  | .bgtz rs rt imm => ⟨.fetched, assemble 7 rs rt imm⟩
  | .addi rs rt imm => ⟨.fetched, assemble 8 rs rt imm⟩
  | .addiu rs rt imm => ⟨.fetched, assemble 9 rs rt imm⟩
  | .slti rs rt imm => ⟨.fetched, assemble 10 rs rt imm⟩
  | .sltiu rs rt imm => ⟨.fetched, assemble 11 rs rt imm⟩
  | .andi rs rt imm => ⟨.fetched, assemble 12 rs rt imm⟩
  | .ori rs rt imm => ⟨.fetched, assemble 13 rs rt imm⟩
  | .xori rs rt imm => ⟨.fetched, assemble 14 rs rt imm⟩
  | .lui rs rt imm => ⟨.fetched, assemble 15 rs rt imm⟩
  | .cop0 rs rt imm => ⟨.fetched, assemble 16 rs rt imm⟩
  | .cop1 rs rt imm => ⟨.fetched, assemble 17 rs rt imm⟩
  | .cop2 rs rt imm => ⟨.fetched, assemble 18 rs rt imm⟩
  | .beql rs rt imm => ⟨.fetched, assemble 20 rs rt imm⟩
  | .bnel rs rt imm => ⟨.fetched, assemble 21 rs rt imm⟩
  | .blezl rs rt imm => ⟨.fetched, assemble 22 rs rt imm⟩
  | .bgtzl rs rt imm => ⟨.fetched, assemble 23 rs rt imm⟩
  | .daddi rs rt imm => ⟨.fetched, assemble 24 rs rt imm⟩
  | .daddiu rs rt imm => ⟨.fetched, assemble 25 rs rt imm⟩
  | .ldl rs rt imm => ⟨.fetched, assemble 26 rs rt imm⟩
  | .ldr rs rt imm => ⟨.fetched, assemble 27 rs rt imm⟩
  | .lb rs rt imm => ⟨.fetched, assemble 32 rs rt imm⟩
  | .lh rs rt imm => ⟨.fetched, assemble 33 rs rt imm⟩
  | .lwl rs rt imm => ⟨.fetched, assemble 34 rs rt imm⟩
  | .lw rs rt imm => ⟨.fetched, assemble 35 rs rt imm⟩
  | .lbu rs rt imm => ⟨.fetched, assemble 36 rs rt imm⟩
  | .lhu rs rt imm => ⟨.fetched, assemble 37 rs rt imm⟩
  | .lwr rs rt imm => ⟨.fetched, assemble 38 rs rt imm⟩
  | .lwu rs rt imm => ⟨.fetched, assemble 39 rs rt imm⟩
  | .sb rs rt imm => ⟨.fetched, assemble 40 rs rt imm⟩
  | .sh rs rt imm => ⟨.fetched, assemble 41 rs rt imm⟩
  | .swl rs rt imm => ⟨.fetched, assemble 42 rs rt imm⟩
  | .sw rs rt imm => ⟨.fetched, assemble 43 rs rt imm⟩
  | .sdl rs rt imm => ⟨.fetched, assemble 44 rs rt imm⟩
  | .sdr rs rt imm => ⟨.fetched, assemble 45 rs rt imm⟩
  | .swr rs rt imm => ⟨.fetched, assemble 46 rs rt imm⟩
  | .cache rs rt imm => ⟨.fetched, assemble 47 rs rt imm⟩
  | .ll rs rt imm => ⟨.fetched, assemble 48 rs rt imm⟩
  | .lwc1 rs rt imm => ⟨.fetched, assemble 49 rs rt imm⟩
  | .lwc2 rs rt imm => ⟨.fetched, assemble 50 rs rt imm⟩
  | .lld rs rt imm => ⟨.fetched, assemble 52 rs rt imm⟩
  | .ldc1 rs rt imm => ⟨.fetched, assemble 53 rs rt imm⟩
  | .ldc2 rs rt imm => ⟨.fetched, assemble 54 rs rt imm⟩
  | .ld rs rt imm => ⟨.fetched, assemble 55 rs rt imm⟩
  | .sc rs rt imm => ⟨.fetched, assemble 56 rs rt imm⟩
  | .swc1 rs rt imm => ⟨.fetched, assemble 57 rs rt imm⟩
  | .swc2 rs rt imm => ⟨.fetched, assemble 58 rs rt imm⟩
  | .scd rs rt imm => ⟨.fetched, assemble 60 rs rt imm⟩
  | .sdc1 rs rt imm => ⟨.fetched, assemble 61 rs rt imm⟩
  | .sdc2 rs rt imm => ⟨.fetched, assemble 62 rs rt imm⟩
  | .sd rs rt imm => ⟨.fetched, assemble 63 rs rt imm⟩

/-- The word whose bits are `w`, where `w` fits in `nbits` bits and `nbits` is at most 32; the bits above are 0. -/
def wordOfBits (nbits w : Nat) : Except DecodeRefusal Word :=
  if nbits ≤ 32 ∧ w < 2 ^ nbits then .ok (BitVec.ofNat 32 w) else .error (.notAWord nbits)

/-- The row that the decoder reads from a bare instruction word, one delivered by the fetch stage with no operation
named (log 9). A word reaches the block as a 32-bit value, so no byte order enters (R13, R62). -/
def decodeTableWord (nbits w : Nat) : Option Instr :=
  match wordOfBits nbits w with
  | .ok word => (decode ⟨.fetched, word⟩).toOption
  | .error _ => none

end Sys2Proof
end

