-- ==== Sys2Proof/Machine/Views.lean ====
section
/-! DEFINITION. The field enumerations (00_scope.md R14), the three errors (60_exceptions.md R180), the result of an
operation (00_scope.md R12) and the view records (10_state.md R24, R27, R30, R31). -/

namespace Sys2Proof.Machine

/-- Config bits 27:24 (R14, R131). -/
inductive DataTransferPattern where
  | normal
  | dxxDxx
deriving DecidableEq, Repr, Inhabited

/-- Config bit 15 (R14, R25). -/
inductive Endianness where
  | little
  | big
deriving DecidableEq, Repr, Inhabited

/-- Where the TLB and general exception vectors lie (R14, R30). -/
inductive TlbVectorLocation where
  | normal
  | bootstrap
deriving DecidableEq, Repr, Inhabited

/-- The privilege mode, Status bits 4:3 (R14, R154). -/
inductive Mode where
  | kernel
  | supervisor
  | user
deriving DecidableEq, Repr, Inhabited

/-- The errors of the block, told apart by constructor, with no payload and no number (R180, R182, D17). -/
inductive DecodeError where
  /-- `opcode()` found no mnemonic for bits 31:26 (R102). -/
  | unrecognizedInstruction
  /-- A reserved data-transfer-pattern code (R130) or privilege-mode code (R154). -/
  | invalidFieldValue
  /-- The Config write path, whose semantics are not specified (R134). -/
  | notImplemented
deriving DecidableEq, Repr

/-- What an operation returns: `ok v` or `err e` (R12). -/
inductive Result (α : Type) where
  | ok (v : α)
  | err (e : DecodeError)
deriving DecidableEq, Repr

/-- The Config view (R24). -/
structure ConfigView where
  dataTransferPattern : DataTransferPattern
  endianness : Endianness
  cu : Bool
  kseg0CacheEnabled : Bool
deriving DecidableEq, Repr

/-- The diagnostic sub-register of Status (R30). -/
structure DiagnosticStatus where
  instructionTraceSupport : Bool
  tlbShutdown : Bool
  softResetOrNmiOccurred : Bool
  conditionBit : Bool
  tlbGeneralExceptionVectorLocation : TlbVectorLocation
deriving DecidableEq, Repr

/-- The interrupt-mask sub-register of Status (R31). -/
structure InterruptMask where
  timerInterrupt : Bool
  externalInterruptWriteReq : Vector Bool 5
  softwareInterruptsCauseReg : Vector Bool 2
deriving DecidableEq, Repr

/-- The Status view, its fields in the source's order (R27). -/
structure StatusView where
  coprocessorUsability : Vector Bool 4
  lowPower : Bool
  additionalFpRegs : Bool
  reverseEndian : Bool
  diagnosticStatus : DiagnosticStatus
  interruptMask : InterruptMask
  kernelMode64BitAddressing : Bool
  supervisorMode64BitAddressing : Bool
  userMode64BitAddressing : Bool
  mode : Mode
  errorLevel : Bool
  exceptionLevel : Bool
  interruptsEnabled : Bool
deriving DecidableEq, Repr

end Sys2Proof.Machine
end

