-- ==== Sys2Proof/Config.lean ====
section
/-! DEFINITION. The parameters of the block (00_scope.md R9): the mnemonic enumeration, the opcode table, the Status
layout, and the two draws of CP0 initialization. The table and the layout are plain data that State holds, so that a
statement about every state is a statement about every table and every layout (92_eei_decisions.md D3, D4). -/

namespace Sys2Proof

/-- The external enumeration of opcode names (R9). DESIGN CHOICE, log 4: the names of the informative VR4300 map (R85),
and `other n` for a name of another table, so that a table over any countable enumeration is one over this type. -/
inductive Mnemonic where
  | special | regimm | j | jal | beq | bne | blez | bgtz
  | addi | addiu | slti | sltiu | andi | ori | xori | lui
  | cop0 | cop1 | cop2 | beql | bnel | blezl | bgtzl | daddi
  | daddiu | ldl | ldr | lb | lh | lwl | lw | lbu
  | lhu | lwr | lwu | sb | sh | swl | sw | sdl
  | sdr | swr | cache | ll | lwc1 | lwc2 | lld | ldc1
  | ldc2 | ld | sc | swc1 | swc2 | scd | sdc1 | sdc2
  | sd
  | other (n : Nat)
deriving DecidableEq, Repr

/-- The external opcode table, `BitVec 6 -> Option Mnemonic` as its 64 entries: entry `k` is the mnemonic of opcode `k`,
`none` where the value has no defined mnemonic (R9, R84, D3). -/
abbrev OpcodeTable := Vector (Option Mnemonic) 64

/-- The bit position of each Status field but the three the source fixes: bit 31 (`coprocessor_usability[3]`), bits 4:3
(`mode`) and bit 0 (`interrupts_enabled`) (R9, R28, R29, D4, D5). -/
structure StatusLayout where
  coprocessorUsability : Vector (Fin 32) 3
  lowPower : Fin 32
  additionalFpRegs : Fin 32
  reverseEndian : Fin 32
  instructionTraceSupport : Fin 32
  tlbGeneralExceptionVectorLocation : Fin 32
  tlbShutdown : Fin 32
  softResetOrNmiOccurred : Fin 32
  conditionBit : Fin 32
  timerInterrupt : Fin 32
  externalInterruptWriteReq : Vector (Fin 32) 5
  softwareInterruptsCauseReg : Vector (Fin 32) 2
  kernelMode64BitAddressing : Fin 32
  supervisorMode64BitAddressing : Fin 32
  userMode64BitAddressing : Fin 32
  errorLevel : Fin 32
  exceptionLevel : Fin 32
deriving DecidableEq, Repr

/-- The parameters that are fixed before the first operation and that no operation changes (R9, R204). -/
structure Params where
  opcodeTable : OpcodeTable
  statusLayout : StatusLayout
deriving DecidableEq, Repr

/-- The draw CfgInitDtp: the data transfer pattern after CP0 initialization (R9, R38, D6). DESIGN CHOICE, log 5. -/
opaque Config.cfgInitDtp : Machine.DataTransferPattern

/-- The draw CfgInitEndian: the endianness after CP0 initialization (R9, R38, D6). DESIGN CHOICE, log 5. -/
opaque Config.cfgInitEndian : Machine.Endianness

end Sys2Proof
end

