-- ==== Sys2Proof/Machine/Flags.lean ====
section
/-! DEFINITION. The flags: the Bool fields of the views and how each is computed from the raw word. They are the block's
only flags; there are no arithmetic condition codes (10_state.md R34). -/

namespace Sys2Proof.Machine

/-- `raw[p]` as a Bool, 1 for true (00_scope.md R10). -/
def flagAt (raw : Word) (p : Fin 32) : Bool := raw.getLsbD p.val

/-- Config `cu`, bit 3 (R25). -/
def configCuFlag (raw : Word) : Bool := flagAt raw 3

/-- Config `kseg0_cache_enabled`: false only for `0b010` in bits 2:0 (R25, R87). -/
def configKseg0Flag (raw : Word) : Bool := decide (configKseg0Field raw ≠ 0b010)

/-- `coprocessor_usability`: elements 0 to 2 at the layout's positions, element 3 at bit 31 (R28, R32, D5). -/
def coprocessorUsabilityFlags (l : StatusLayout) (raw : Word) : Vector Bool 4 :=
  #v[flagAt raw l.coprocessorUsability[0], flagAt raw l.coprocessorUsability[1],
     flagAt raw l.coprocessorUsability[2], flagAt raw 31]

/-- `external_interrupt_write_req`: element `i` at the layout's position `i` (R32, D5). -/
def externalInterruptFlags (l : StatusLayout) (raw : Word) : Vector Bool 5 :=
  #v[flagAt raw l.externalInterruptWriteReq[0], flagAt raw l.externalInterruptWriteReq[1],
     flagAt raw l.externalInterruptWriteReq[2], flagAt raw l.externalInterruptWriteReq[3],
     flagAt raw l.externalInterruptWriteReq[4]]

/-- `software_interrupts_cause_reg`: element `i` at the layout's position `i` (R32, D5). -/
def softwareInterruptFlags (l : StatusLayout) (raw : Word) : Vector Bool 2 :=
  #v[flagAt raw l.softwareInterruptsCauseReg[0], flagAt raw l.softwareInterruptsCauseReg[1]]

/-- `interrupts_enabled`, bit 0 (R28). -/
def interruptsEnabledFlag (raw : Word) : Bool := flagAt raw 0

end Sys2Proof.Machine
end

