-- ==== Sys2Proof/Machine/Defaults.lean ====
section
/-! DEFINITION. The default instances of the parameters and the views of CP0 initialization: the VR4300 opcode map
(30_encoding.md R85) and Status layout (10_state.md R29), and the initial views (R38, R39). -/

namespace Sys2Proof.Machine

/-- OpcodeTable_VR4300, the informative instance (R85). PRESUMED, log 12: general knowledge (G5), not the source's. -/
def opcodeTableVr4300 : OpcodeTable :=
  #v[
    some .special, some .regimm, some .j, some .jal, some .beq, some .bne, some .blez, some .bgtz,
    some .addi, some .addiu, some .slti, some .sltiu, some .andi, some .ori, some .xori, some .lui,
    some .cop0, some .cop1, some .cop2, none, some .beql, some .bnel, some .blezl, some .bgtzl,
    some .daddi, some .daddiu, some .ldl, some .ldr, none, none, none, none,
    some .lb, some .lh, some .lwl, some .lw, some .lbu, some .lhu, some .lwr, some .lwu,
    some .sb, some .sh, some .swl, some .sw, some .sdl, some .sdr, some .swr, some .cache,
    some .ll, some .lwc1, some .lwc2, none, some .lld, some .ldc1, some .ldc2, some .ld,
    some .sc, some .swc1, some .swc2, none, some .scd, some .sdc1, some .sdc2, some .sd]

/-- The default StatusLayout, the VR4300 Status register (R29, R32). PRESUMED, log 11: general knowledge (G3, G4). -/
def statusLayoutVr4300 : StatusLayout where
  coprocessorUsability := #v[28, 29, 30]
  lowPower := 27
  additionalFpRegs := 26
  reverseEndian := 25
  instructionTraceSupport := 24
  tlbGeneralExceptionVectorLocation := 22
  tlbShutdown := 21
  softResetOrNmiOccurred := 20
  conditionBit := 18
  timerInterrupt := 15
  externalInterruptWriteReq := #v[10, 11, 12, 13, 14]
  softwareInterruptsCauseReg := #v[8, 9]
  kernelMode64BitAddressing := 7
  supervisorMode64BitAddressing := 6
  userMode64BitAddressing := 5
  errorLevel := 2
  exceptionLevel := 1

/-- The parameters of `State.reset` (R9). PRESUMED, log 11 and 12. -/
def defaultParams : Params where
  opcodeTable := opcodeTableVr4300
  statusLayout := statusLayoutVr4300

/-- The Config view that CP0 initialization creates, for the draws `dtp` and `endian` (R38). -/
def configInit (dtp : DataTransferPattern) (endian : Endianness) : ConfigView where
  dataTransferPattern := dtp
  endianness := endian
  cu := false
  kseg0CacheEnabled := false

/-- The Status view that CP0 initialization creates (R39). DEDUCED by the spec from "all-false/default", log 6. -/
def statusInit : StatusView where
  coprocessorUsability := #v[false, false, false, false]
  lowPower := false
  additionalFpRegs := false
  reverseEndian := false
  diagnosticStatus := ⟨false, false, false, false, .normal⟩
  interruptMask := ⟨false, #v[false, false, false, false, false], #v[false, false]⟩
  kernelMode64BitAddressing := false
  supervisorMode64BitAddressing := false
  userMode64BitAddressing := false
  mode := .kernel
  errorLevel := false
  exceptionLevel := false
  interruptsEnabled := false

end Sys2Proof.Machine
end

