-- ==== Sys2Proof/Machine/State.lean ====
section
/-! DEFINITION. The state of the block (10_state.md R21), its parameters, the model's own interface fields, the reasons
a step can stop, and the state after CP0 initialization. -/

namespace Sys2Proof.Machine

/-- The outputs of the combinational instruction decoder for one word (40_instruction_decoder.md R100, R101). `imm` is
also `offset`, and `immSignExtended` also `offset_sign_extended` (R17). -/
structure DecoderOutputs where
  opcode : Result Mnemonic
  opcodeField : BitVec 6
  rs : BitVec 5
  rt : BitVec 5
  rd : BitVec 5
  imm : BitVec 16
  immSignExtended : BitVec 64
deriving DecidableEq, Repr

/-- The value an operation returns. -/
inductive Value where
  /-- All outputs of the instruction decoder (R100). -/
  | decoder (outputs : DecoderOutputs)
  /-- `opcode` (R102). -/
  | mnemonic (m : Mnemonic)
  /-- `rs`, `rt`, `rd` (R103 to R105). -/
  | registerIndex (r : BitVec 5)
  /-- `imm`, `offset` (R106, R107). -/
  | immediate (v : BitVec 16)
  /-- `imm_sign_extended`, `offset_sign_extended` (R108, R109). -/
  | signExtended (v : BitVec 64)
  /-- `Config.decode` (R130). -/
  | config (v : ConfigView)
  /-- `Status.decode` (R150). -/
  | status (v : StatusView)
  /-- `DiagnosticStatus.decode` (R151). -/
  | diagnosticStatus (v : DiagnosticStatus)
  /-- `InterruptMask.decode` (R152). -/
  | interruptMask (v : InterruptMask)
  /-- `Mode.decode` (R154). -/
  | mode (v : Mode)
  /-- `Config.load`, `Status.load`, `power_on_reset`: done, no value (R132, R133, R153). -/
  | done
deriving DecidableEq, Repr

/-- The machine's state, plain data. -/
structure State where
  /-- The Config view register (R21, R24). -/
  cfg : ConfigView
  /-- The Status view register (R21, R27). -/
  st : StatusView
  /-- The fault mark (R21, R185). -/
  fault : Option DecodeError
  /-- The parameters, which no operation changes (R9, R204; log 3). -/
  params : Params
  /-- The model's own: the invocations the owner has still to issue, in order (R20, R66; log 1). -/
  pending : List Invocation
  /-- The model's own: what the last operation returned to its caller (R12; log 2). No operation reads it. -/
  result : Option (Result Value)
deriving DecidableEq, Repr

/-- Why the machine stops. -/
inductive Fault where
  /-- Raised by every operation and every step in a state whose fault mark is set: the owner has no further step
  (R185, R207). Safe: it removes runs, and adds none. -/
  | ownerHalted (e : DecodeError)
deriving DecidableEq, Repr

/-- Why an instruction has no meaning. -/
inductive Refusal where
  /-- Raised only by an arm of `exec` whose instruction is not modelled yet; there is none. Safe. -/
  | notModelled (mnemonic : String)
deriving DecidableEq, Repr

/-- The outcome of an operation or a step. -/
abbrev Out := Host.Outcome State Fault Refusal

/-- CP0 initialization, for parameters `p` and the draws `dtp` and `endian` (R38 to R40, R200, R201). -/
def State.init (p : Params) (dtp : DataTransferPattern) (endian : Endianness) : State where
  cfg := configInit dtp endian
  st := statusInit
  fault := none
  params := p
  pending := []
  result := none

/-- The state after CP0 initialization with the default parameters (log 11, 12) and the draws the spec leaves open
(log 5). -/
def State.reset : State :=
  State.init defaultParams Config.cfgInitDtp Config.cfgInitEndian

end Sys2Proof.Machine
end

