-- ==== Sys2Proof/Machine/Ops.lean ====
section
/-! DEFINITION. The named operations over the state: returning a value, raising an error (the block's only exception
entry, 60_exceptions.md R185, R187), writing a view register, taking the owner's next invocation. -/

namespace Sys2Proof.Machine

/-- `Result.ok v` carried through `f`; an error stays the same error. -/
def mapOk {α β : Type} (f : α → β) (r : Result α) : Result β :=
  match r with
  | .ok v => .ok (f v)
  | .err e => .err e

/-- `cfg <- v`: the whole view at once (R65, R132). -/
def State.writeCfg (v : ConfigView) (s : State) : State := { s with cfg := v }

/-- `st <- v`: the whole view at once (R65, R153). -/
def State.writeSt (v : StatusView) (s : State) : State := { s with st := v }

/-- The value `v` returned to the caller (R12). -/
def State.answer (v : Value) (s : State) : State := { s with result := some (.ok v) }

/-- Raising `e`: no view register is written, the fault mark is set, and the caller gets `err e`. No state is saved,
no mode or mask changes, no control is transferred (R185, R187). There is no return (R188). -/
def State.raise (e : DecodeError) (s : State) : State :=
  { s with fault := some e, result := some (.err e) }

/-- `t`, unless the fault mark is set: then the owner has no further step (R185, R207). -/
def unlessHalted (s : State) (t : Out) : Out :=
  match s.fault with
  | none => t
  | some e => .fault (.ownerHalted e)

/-- The end of an operation issued in `s`: on `ok` the value it returns and the state with its writes; on `err` the
error raised in `s` itself, so that a failing operation writes nothing (R12, R185). -/
def finish (s : State) (r : Result (Value × State)) : Out :=
  unlessHalted s (match r with
    | .ok (v, t) => .next (t.answer v)
    | .err e => .next (s.raise e))

/-- The end of a pure operation, which writes no state. -/
def finishPure (s : State) (r : Result Value) : Out :=
  finish s (mapOk (fun v => (v, s)) r)

/-- The owner's next invocation, and the state in which it is issued; `none` where nothing is pending (log 1). -/
def State.takePending (s : State) : Option (Invocation × State) :=
  match s.pending with
  | [] => none
  | inv :: rest => some (inv, { s with pending := rest })

/-- An invocation put before all that are pending. -/
def State.pushPending (inv : Invocation) (s : State) : State :=
  { s with pending := inv :: s.pending }

end Sys2Proof.Machine
end

