-- ==== Sys2Proof/Machine/ConfigDecoder.lean ====
section
/-! DEFINITION. RegConfig (41_config_decoder.md): the decode, the load, `power_on_reset` and the `write` stub. -/

namespace Sys2Proof.Machine

/-- The data-transfer-pattern code (R131). No default is substituted for a reserved code (R87). -/
def patternDecode (code : BitVec 4) : Result DataTransferPattern :=
  if code = 0 then .ok .normal
  else if code = 6 then .ok .dxxDxx
  else .err .invalidFieldValue

/-- Config bit 15 (R25). -/
def endiannessDecode (raw : Word) : Endianness := if flagAt raw 15 then .big else .little

/-- `Config.decode` (R130). Bits 31:28, 23:16 and 14:4 are not read (R26). -/
def configDecode (raw : Word) : Result ConfigView :=
  mapOk
    (fun pattern =>
      { dataTransferPattern := pattern
        endianness := endiannessDecode raw
        cu := configCuFlag raw
        kseg0CacheEnabled := configKseg0Flag raw })
    (patternDecode (configPatternField raw))

/-- The view that `power_on_reset` leaves: two fields forced, `cu` and `kseg0_cache_enabled` kept (R133, C2). -/
def powerOnResetView (v : ConfigView) : ConfigView :=
  { v with dataTransferPattern := .normal, endianness := .big }

/-- `Config.decode` (R130). -/
def execConfigDecode (raw : Word) (s : State) : Out := finishPure s (mapOk .config (configDecode raw))

/-- `Config.load` (R132). -/
def execConfigLoad (raw : Word) (s : State) : Out :=
  finish s (mapOk (fun v => (.done, s.writeCfg v)) (configDecode raw))

/-- `power_on_reset()` (R133). -/
def execPowerOnReset (s : State) : Out := finish s (.ok (.done, s.writeCfg (powerOnResetView s.cfg)))

/-- `write(data)`: always NotImplemented, whatever the data (R134, D8). -/
def execWrite (_data : Word) (s : State) : Out := finishPure s (.err .notImplemented)

end Sys2Proof.Machine
end

