-- ==== Sys2Proof/Machine/InstructionDecoder.lean ====
section
/-! DEFINITION. The InstructionDecoder (40_instruction_decoder.md): the opcode lookup, the field extractors, and a
fetched word presented to the whole decoder. -/

namespace Sys2Proof.Machine

/-- `OpcodeTable(op)` (R9, R84). -/
def opcodeEntry (t : OpcodeTable) (op : BitVec 6) : Option Mnemonic := t[op.toNat]'op.isLt

/-- The opcode lookup (R102). -/
def opcodeLookup (t : OpcodeTable) (w : Word) : Result Mnemonic :=
  match opcodeEntry t (opcodeField w) with
  | some m => .ok m
  | none => .err .unrecognizedInstruction

/-- All outputs of the decoder for `w` (R100, R101). The fields are produced whatever the opcode (R82, R110). -/
def decoderOutputs (t : OpcodeTable) (w : Word) : DecoderOutputs where
  opcode := opcodeLookup t w
  opcodeField := opcodeField w
  rs := rsField w
  rt := rtField w
  rd := rdField w
  imm := immField w
  immSignExtended := immSignExtendedField w

/-- A fetched word presented to the decoder: its outputs, or UnrecognizedInstruction, which is fatal to the current
instruction (R100, R102, R183). -/
def presentWord (w : Word) (s : State) : Out :=
  finishPure s (mapOk (fun _ => .decoder (decoderOutputs s.params.opcodeTable w)) (opcodeLookup s.params.opcodeTable w))

/-- `opcode()` (R102). -/
def execOpcode (w : Word) (s : State) : Out :=
  finishPure s (mapOk .mnemonic (opcodeLookup s.params.opcodeTable w))

/-- `rs()` (R103). -/
def execRs (w : Word) (s : State) : Out := finishPure s (.ok (.registerIndex (rsField w)))

/-- `rt()` (R104). -/
def execRt (w : Word) (s : State) : Out := finishPure s (.ok (.registerIndex (rtField w)))

/-- `rd()` (R105). -/
def execRd (w : Word) (s : State) : Out := finishPure s (.ok (.registerIndex (rdField w)))

/-- `imm()` (R106). -/
def execImm (w : Word) (s : State) : Out := finishPure s (.ok (.immediate (immField w)))

/-- `offset()` (R107). -/
def execOffset (w : Word) (s : State) : Out := finishPure s (.ok (.immediate (offsetField w)))

/-- `imm_sign_extended()` (R108). -/
def execImmSignExtended (w : Word) (s : State) : Out :=
  finishPure s (.ok (.signExtended (immSignExtendedField w)))

/-- `offset_sign_extended()` (R109). -/
def execOffsetSignExtended (w : Word) (s : State) : Out :=
  finishPure s (.ok (.signExtended (offsetSignExtendedField w)))

end Sys2Proof.Machine
end

