-- ==== Sys2Proof/Machine/PrimaryOpcodes.lean ====
section
/-! DEFINITION. The 57 primary-opcode rows of opcode_table.json: a fetched word of that opcode presented to the
instruction decoder (R85, R89, R100, R102). The mnemonic each yields is the one the parameter OpcodeTable gives its
opcode (D3); what the mnemonic then does is out of scope (00_scope.md R6, R7). DESIGN CHOICE, log 8. -/

namespace Sys2Proof.Machine

/-- SPECIAL, primary opcode 0 (R85, R89, R102). -/
def execSpecial (rs rt : BitVec 5) (imm : BitVec 16) (s : State) : Out :=
  presentWord (assemble 0 rs rt imm) s

/-- REGIMM, primary opcode 1 (R85, R89, R102). -/
def execRegimm (rs rt : BitVec 5) (imm : BitVec 16) (s : State) : Out :=
  presentWord (assemble 1 rs rt imm) s

/-- J, primary opcode 2 (R85, R89, R102). -/
def execJ (rs rt : BitVec 5) (imm : BitVec 16) (s : State) : Out :=
  presentWord (assemble 2 rs rt imm) s

/-- JAL, primary opcode 3 (R85, R89, R102). -/
def execJal (rs rt : BitVec 5) (imm : BitVec 16) (s : State) : Out :=
  presentWord (assemble 3 rs rt imm) s

/-- BEQ, primary opcode 4 (R85, R89, R102). -/
def execBeq (rs rt : BitVec 5) (imm : BitVec 16) (s : State) : Out :=
  presentWord (assemble 4 rs rt imm) s

/-- BNE, primary opcode 5 (R85, R89, R102). -/
def execBne (rs rt : BitVec 5) (imm : BitVec 16) (s : State) : Out :=
  presentWord (assemble 5 rs rt imm) s

/-- BLEZ, primary opcode 6 (R85, R89, R102). -/
def execBlez (rs rt : BitVec 5) (imm : BitVec 16) (s : State) : Out :=
  presentWord (assemble 6 rs rt imm) s

/-- BGTZ, primary opcode 7 (R85, R89, R102). -/
def execBgtz (rs rt : BitVec 5) (imm : BitVec 16) (s : State) : Out :=
  presentWord (assemble 7 rs rt imm) s

/-- ADDI, primary opcode 8 (R85, R89, R102). -/
def execAddi (rs rt : BitVec 5) (imm : BitVec 16) (s : State) : Out :=
  presentWord (assemble 8 rs rt imm) s

/-- ADDIU, primary opcode 9 (R85, R89, R102). -/
def execAddiu (rs rt : BitVec 5) (imm : BitVec 16) (s : State) : Out :=
  presentWord (assemble 9 rs rt imm) s

/-- SLTI, primary opcode 10 (R85, R89, R102). -/
def execSlti (rs rt : BitVec 5) (imm : BitVec 16) (s : State) : Out :=
  presentWord (assemble 10 rs rt imm) s

/-- SLTIU, primary opcode 11 (R85, R89, R102). -/
def execSltiu (rs rt : BitVec 5) (imm : BitVec 16) (s : State) : Out :=
  presentWord (assemble 11 rs rt imm) s

/-- ANDI, primary opcode 12 (R85, R89, R102). -/
def execAndi (rs rt : BitVec 5) (imm : BitVec 16) (s : State) : Out :=
  presentWord (assemble 12 rs rt imm) s

/-- ORI, primary opcode 13 (R85, R89, R102). -/
def execOri (rs rt : BitVec 5) (imm : BitVec 16) (s : State) : Out :=
  presentWord (assemble 13 rs rt imm) s

/-- XORI, primary opcode 14 (R85, R89, R102). -/
def execXori (rs rt : BitVec 5) (imm : BitVec 16) (s : State) : Out :=
  presentWord (assemble 14 rs rt imm) s

/-- LUI, primary opcode 15 (R85, R89, R102). -/
def execLui (rs rt : BitVec 5) (imm : BitVec 16) (s : State) : Out :=
  presentWord (assemble 15 rs rt imm) s

/-- COP0, primary opcode 16 (R85, R89, R102). -/
def execCop0 (rs rt : BitVec 5) (imm : BitVec 16) (s : State) : Out :=
  presentWord (assemble 16 rs rt imm) s

/-- COP1, primary opcode 17 (R85, R89, R102). -/
def execCop1 (rs rt : BitVec 5) (imm : BitVec 16) (s : State) : Out :=
  presentWord (assemble 17 rs rt imm) s

/-- COP2, primary opcode 18 (R85, R89, R102). -/
def execCop2 (rs rt : BitVec 5) (imm : BitVec 16) (s : State) : Out :=
  presentWord (assemble 18 rs rt imm) s

/-- BEQL, primary opcode 20 (R85, R89, R102). -/
def execBeql (rs rt : BitVec 5) (imm : BitVec 16) (s : State) : Out :=
  presentWord (assemble 20 rs rt imm) s

/-- BNEL, primary opcode 21 (R85, R89, R102). -/
def execBnel (rs rt : BitVec 5) (imm : BitVec 16) (s : State) : Out :=
  presentWord (assemble 21 rs rt imm) s

/-- BLEZL, primary opcode 22 (R85, R89, R102). -/
def execBlezl (rs rt : BitVec 5) (imm : BitVec 16) (s : State) : Out :=
  presentWord (assemble 22 rs rt imm) s

/-- BGTZL, primary opcode 23 (R85, R89, R102). -/
def execBgtzl (rs rt : BitVec 5) (imm : BitVec 16) (s : State) : Out :=
  presentWord (assemble 23 rs rt imm) s

/-- DADDI, primary opcode 24 (R85, R89, R102). -/
def execDaddi (rs rt : BitVec 5) (imm : BitVec 16) (s : State) : Out :=
  presentWord (assemble 24 rs rt imm) s

/-- DADDIU, primary opcode 25 (R85, R89, R102). -/
def execDaddiu (rs rt : BitVec 5) (imm : BitVec 16) (s : State) : Out :=
  presentWord (assemble 25 rs rt imm) s

/-- LDL, primary opcode 26 (R85, R89, R102). -/
def execLdl (rs rt : BitVec 5) (imm : BitVec 16) (s : State) : Out :=
  presentWord (assemble 26 rs rt imm) s

/-- LDR, primary opcode 27 (R85, R89, R102). -/
def execLdr (rs rt : BitVec 5) (imm : BitVec 16) (s : State) : Out :=
  presentWord (assemble 27 rs rt imm) s

/-- LB, primary opcode 32 (R85, R89, R102). -/
def execLb (rs rt : BitVec 5) (imm : BitVec 16) (s : State) : Out :=
  presentWord (assemble 32 rs rt imm) s

/-- LH, primary opcode 33 (R85, R89, R102). -/
def execLh (rs rt : BitVec 5) (imm : BitVec 16) (s : State) : Out :=
  presentWord (assemble 33 rs rt imm) s

/-- LWL, primary opcode 34 (R85, R89, R102). -/
def execLwl (rs rt : BitVec 5) (imm : BitVec 16) (s : State) : Out :=
  presentWord (assemble 34 rs rt imm) s

/-- LW, primary opcode 35 (R85, R89, R102). -/
def execLw (rs rt : BitVec 5) (imm : BitVec 16) (s : State) : Out :=
  presentWord (assemble 35 rs rt imm) s

/-- LBU, primary opcode 36 (R85, R89, R102). -/
def execLbu (rs rt : BitVec 5) (imm : BitVec 16) (s : State) : Out :=
  presentWord (assemble 36 rs rt imm) s

/-- LHU, primary opcode 37 (R85, R89, R102). -/
def execLhu (rs rt : BitVec 5) (imm : BitVec 16) (s : State) : Out :=
  presentWord (assemble 37 rs rt imm) s

/-- LWR, primary opcode 38 (R85, R89, R102). -/
def execLwr (rs rt : BitVec 5) (imm : BitVec 16) (s : State) : Out :=
  presentWord (assemble 38 rs rt imm) s

/-- LWU, primary opcode 39 (R85, R89, R102). -/
def execLwu (rs rt : BitVec 5) (imm : BitVec 16) (s : State) : Out :=
  presentWord (assemble 39 rs rt imm) s

/-- SB, primary opcode 40 (R85, R89, R102). -/
def execSb (rs rt : BitVec 5) (imm : BitVec 16) (s : State) : Out :=
  presentWord (assemble 40 rs rt imm) s

/-- SH, primary opcode 41 (R85, R89, R102). -/
def execSh (rs rt : BitVec 5) (imm : BitVec 16) (s : State) : Out :=
  presentWord (assemble 41 rs rt imm) s

/-- SWL, primary opcode 42 (R85, R89, R102). -/
def execSwl (rs rt : BitVec 5) (imm : BitVec 16) (s : State) : Out :=
  presentWord (assemble 42 rs rt imm) s

/-- SW, primary opcode 43 (R85, R89, R102). -/
def execSw (rs rt : BitVec 5) (imm : BitVec 16) (s : State) : Out :=
  presentWord (assemble 43 rs rt imm) s

/-- SDL, primary opcode 44 (R85, R89, R102). -/
def execSdl (rs rt : BitVec 5) (imm : BitVec 16) (s : State) : Out :=
  presentWord (assemble 44 rs rt imm) s

/-- SDR, primary opcode 45 (R85, R89, R102). -/
def execSdr (rs rt : BitVec 5) (imm : BitVec 16) (s : State) : Out :=
  presentWord (assemble 45 rs rt imm) s

/-- SWR, primary opcode 46 (R85, R89, R102). -/
def execSwr (rs rt : BitVec 5) (imm : BitVec 16) (s : State) : Out :=
  presentWord (assemble 46 rs rt imm) s

/-- CACHE, primary opcode 47 (R85, R89, R102). -/
def execCache (rs rt : BitVec 5) (imm : BitVec 16) (s : State) : Out :=
  presentWord (assemble 47 rs rt imm) s

/-- LL, primary opcode 48 (R85, R89, R102). -/
def execLl (rs rt : BitVec 5) (imm : BitVec 16) (s : State) : Out :=
  presentWord (assemble 48 rs rt imm) s

/-- LWC1, primary opcode 49 (R85, R89, R102). -/
def execLwc1 (rs rt : BitVec 5) (imm : BitVec 16) (s : State) : Out :=
  presentWord (assemble 49 rs rt imm) s

/-- LWC2, primary opcode 50 (R85, R89, R102). -/
def execLwc2 (rs rt : BitVec 5) (imm : BitVec 16) (s : State) : Out :=
  presentWord (assemble 50 rs rt imm) s

/-- LLD, primary opcode 52 (R85, R89, R102). -/
def execLld (rs rt : BitVec 5) (imm : BitVec 16) (s : State) : Out :=
  presentWord (assemble 52 rs rt imm) s

/-- LDC1, primary opcode 53 (R85, R89, R102). -/
def execLdc1 (rs rt : BitVec 5) (imm : BitVec 16) (s : State) : Out :=
  presentWord (assemble 53 rs rt imm) s

/-- LDC2, primary opcode 54 (R85, R89, R102). -/
def execLdc2 (rs rt : BitVec 5) (imm : BitVec 16) (s : State) : Out :=
  presentWord (assemble 54 rs rt imm) s

/-- LD, primary opcode 55 (R85, R89, R102). -/
def execLd (rs rt : BitVec 5) (imm : BitVec 16) (s : State) : Out :=
  presentWord (assemble 55 rs rt imm) s

/-- SC, primary opcode 56 (R85, R89, R102). -/
def execSc (rs rt : BitVec 5) (imm : BitVec 16) (s : State) : Out :=
  presentWord (assemble 56 rs rt imm) s

/-- SWC1, primary opcode 57 (R85, R89, R102). -/
def execSwc1 (rs rt : BitVec 5) (imm : BitVec 16) (s : State) : Out :=
  presentWord (assemble 57 rs rt imm) s

/-- SWC2, primary opcode 58 (R85, R89, R102). -/
def execSwc2 (rs rt : BitVec 5) (imm : BitVec 16) (s : State) : Out :=
  presentWord (assemble 58 rs rt imm) s

/-- SCD, primary opcode 60 (R85, R89, R102). -/
def execScd (rs rt : BitVec 5) (imm : BitVec 16) (s : State) : Out :=
  presentWord (assemble 60 rs rt imm) s

/-- SDC1, primary opcode 61 (R85, R89, R102). -/
def execSdc1 (rs rt : BitVec 5) (imm : BitVec 16) (s : State) : Out :=
  presentWord (assemble 61 rs rt imm) s

/-- SDC2, primary opcode 62 (R85, R89, R102). -/
def execSdc2 (rs rt : BitVec 5) (imm : BitVec 16) (s : State) : Out :=
  presentWord (assemble 62 rs rt imm) s

/-- SD, primary opcode 63 (R85, R89, R102). -/
def execSd (rs rt : BitVec 5) (imm : BitVec 16) (s : State) : Out :=
  presentWord (assemble 63 rs rt imm) s

end Sys2Proof.Machine
end

