-- ==== Sys2Proof/Machine/StatusDecoder.lean ====
section
/-! DEFINITION. RegStatus with DiagnosticStatus and InterruptMask (42_status_decoder.md). Every bit position but 31, 4:3
and 0 is the layout's (10_state.md R28, R29). -/

namespace Sys2Proof.Machine

/-- `Mode.decode` of the KSU code (R154). -/
def modeDecode (code : BitVec 2) : Result Mode :=
  if code = 0b00 then .ok .kernel
  else if code = 0b01 then .ok .supervisor
  else if code = 0b10 then .ok .user
  else .err .invalidFieldValue

/-- `DiagnosticStatus.decode` (R151). -/
def diagnosticStatusDecode (l : StatusLayout) (raw : Word) : DiagnosticStatus where
  instructionTraceSupport := flagAt raw l.instructionTraceSupport
  tlbShutdown := flagAt raw l.tlbShutdown
  softResetOrNmiOccurred := flagAt raw l.softResetOrNmiOccurred
  conditionBit := flagAt raw l.conditionBit
  tlbGeneralExceptionVectorLocation :=
    if flagAt raw l.tlbGeneralExceptionVectorLocation then .bootstrap else .normal

/-- `InterruptMask.decode` (R152). -/
def interruptMaskDecode (l : StatusLayout) (raw : Word) : InterruptMask where
  timerInterrupt := flagAt raw l.timerInterrupt
  externalInterruptWriteReq := externalInterruptFlags l raw
  softwareInterruptsCauseReg := softwareInterruptFlags l raw

/-- `Status.decode` (R150): it fails on the mode field alone. -/
def statusDecode (l : StatusLayout) (raw : Word) : Result StatusView :=
  mapOk
    (fun m =>
      { coprocessorUsability := coprocessorUsabilityFlags l raw
        lowPower := flagAt raw l.lowPower
        additionalFpRegs := flagAt raw l.additionalFpRegs
        reverseEndian := flagAt raw l.reverseEndian
        diagnosticStatus := diagnosticStatusDecode l raw
        interruptMask := interruptMaskDecode l raw
        kernelMode64BitAddressing := flagAt raw l.kernelMode64BitAddressing
        supervisorMode64BitAddressing := flagAt raw l.supervisorMode64BitAddressing
        userMode64BitAddressing := flagAt raw l.userMode64BitAddressing
        mode := m
        errorLevel := flagAt raw l.errorLevel
        exceptionLevel := flagAt raw l.exceptionLevel
        interruptsEnabled := interruptsEnabledFlag raw })
    (modeDecode (statusModeField raw))

/-- `Status.decode` (R150). -/
def execStatusDecode (raw : Word) (s : State) : Out :=
  finishPure s (mapOk .status (statusDecode s.params.statusLayout raw))

/-- `DiagnosticStatus.decode` (R151): total. -/
def execDiagnosticStatusDecode (raw : Word) (s : State) : Out :=
  finishPure s (.ok (.diagnosticStatus (diagnosticStatusDecode s.params.statusLayout raw)))

/-- `InterruptMask.decode` (R152): total. -/
def execInterruptMaskDecode (raw : Word) (s : State) : Out :=
  finishPure s (.ok (.interruptMask (interruptMaskDecode s.params.statusLayout raw)))

/-- `Status.load` (R153). -/
def execStatusLoad (raw : Word) (s : State) : Out :=
  finish s (mapOk (fun v => (.done, s.writeSt v)) (statusDecode s.params.statusLayout raw))

/-- `Mode.decode` (R154). -/
def execModeDecode (raw : Word) (s : State) : Out :=
  finishPure s (mapOk .mode (modeDecode (statusModeField raw)))

end Sys2Proof.Machine
end

