-- ==== Sys2Proof/Machine/Dispatch.lean ====
section
/-! DEFINITION. One arm per row of opcode_table.json, each one call of its meaning. -/

namespace Sys2Proof.Machine

def exec (i : Instr) (s : State) : Host.Outcome State Fault Refusal :=
  match i with
  | .opcode w => Sys2Proof.Machine.execOpcode w s
  | .rs w => Sys2Proof.Machine.execRs w s
  | .rt w => Sys2Proof.Machine.execRt w s
  | .rd w => Sys2Proof.Machine.execRd w s
  | .imm w => Sys2Proof.Machine.execImm w s
  | .offset w => Sys2Proof.Machine.execOffset w s
  | .immSignExtended w => Sys2Proof.Machine.execImmSignExtended w s
  | .offsetSignExtended w => Sys2Proof.Machine.execOffsetSignExtended w s
  | .configDecode w => Sys2Proof.Machine.execConfigDecode w s
  | .configLoad w => Sys2Proof.Machine.execConfigLoad w s
  | .powerOnReset => Sys2Proof.Machine.execPowerOnReset s
  | .write data => Sys2Proof.Machine.execWrite data s
  | .statusDecode w => Sys2Proof.Machine.execStatusDecode w s
  | .diagnosticStatusDecode w => Sys2Proof.Machine.execDiagnosticStatusDecode w s
  | .interruptMaskDecode w => Sys2Proof.Machine.execInterruptMaskDecode w s
  | .statusLoad w => Sys2Proof.Machine.execStatusLoad w s
  | .modeDecode w => Sys2Proof.Machine.execModeDecode w s
  | .special rs rt imm => Sys2Proof.Machine.execSpecial rs rt imm s
  | .regimm rs rt imm => Sys2Proof.Machine.execRegimm rs rt imm s
  | .j rs rt imm => Sys2Proof.Machine.execJ rs rt imm s
  | .jal rs rt imm => Sys2Proof.Machine.execJal rs rt imm s
  | .beq rs rt imm => Sys2Proof.Machine.execBeq rs rt imm s
  | .bne rs rt imm => Sys2Proof.Machine.execBne rs rt imm s
  | .blez rs rt imm => Sys2Proof.Machine.execBlez rs rt imm s
  | .bgtz rs rt imm => Sys2Proof.Machine.execBgtz rs rt imm s
  | .addi rs rt imm => Sys2Proof.Machine.execAddi rs rt imm s
  | .addiu rs rt imm => Sys2Proof.Machine.execAddiu rs rt imm s
  | .slti rs rt imm => Sys2Proof.Machine.execSlti rs rt imm s
  | .sltiu rs rt imm => Sys2Proof.Machine.execSltiu rs rt imm s
  | .andi rs rt imm => Sys2Proof.Machine.execAndi rs rt imm s
  | .ori rs rt imm => Sys2Proof.Machine.execOri rs rt imm s
  | .xori rs rt imm => Sys2Proof.Machine.execXori rs rt imm s
  | .lui rs rt imm => Sys2Proof.Machine.execLui rs rt imm s
  | .cop0 rs rt imm => Sys2Proof.Machine.execCop0 rs rt imm s
  | .cop1 rs rt imm => Sys2Proof.Machine.execCop1 rs rt imm s
  | .cop2 rs rt imm => Sys2Proof.Machine.execCop2 rs rt imm s
  | .beql rs rt imm => Sys2Proof.Machine.execBeql rs rt imm s
  | .bnel rs rt imm => Sys2Proof.Machine.execBnel rs rt imm s
  | .blezl rs rt imm => Sys2Proof.Machine.execBlezl rs rt imm s
  | .bgtzl rs rt imm => Sys2Proof.Machine.execBgtzl rs rt imm s
  | .daddi rs rt imm => Sys2Proof.Machine.execDaddi rs rt imm s
  | .daddiu rs rt imm => Sys2Proof.Machine.execDaddiu rs rt imm s
  | .ldl rs rt imm => Sys2Proof.Machine.execLdl rs rt imm s
  | .ldr rs rt imm => Sys2Proof.Machine.execLdr rs rt imm s
  | .lb rs rt imm => Sys2Proof.Machine.execLb rs rt imm s
  | .lh rs rt imm => Sys2Proof.Machine.execLh rs rt imm s
  | .lwl rs rt imm => Sys2Proof.Machine.execLwl rs rt imm s
  | .lw rs rt imm => Sys2Proof.Machine.execLw rs rt imm s
  | .lbu rs rt imm => Sys2Proof.Machine.execLbu rs rt imm s
  | .lhu rs rt imm => Sys2Proof.Machine.execLhu rs rt imm s
  | .lwr rs rt imm => Sys2Proof.Machine.execLwr rs rt imm s
  | .lwu rs rt imm => Sys2Proof.Machine.execLwu rs rt imm s
  | .sb rs rt imm => Sys2Proof.Machine.execSb rs rt imm s
  | .sh rs rt imm => Sys2Proof.Machine.execSh rs rt imm s
  | .swl rs rt imm => Sys2Proof.Machine.execSwl rs rt imm s
  | .sw rs rt imm => Sys2Proof.Machine.execSw rs rt imm s
  | .sdl rs rt imm => Sys2Proof.Machine.execSdl rs rt imm s
  | .sdr rs rt imm => Sys2Proof.Machine.execSdr rs rt imm s
  | .swr rs rt imm => Sys2Proof.Machine.execSwr rs rt imm s
  | .cache rs rt imm => Sys2Proof.Machine.execCache rs rt imm s
  | .ll rs rt imm => Sys2Proof.Machine.execLl rs rt imm s
  | .lwc1 rs rt imm => Sys2Proof.Machine.execLwc1 rs rt imm s
  | .lwc2 rs rt imm => Sys2Proof.Machine.execLwc2 rs rt imm s
  | .lld rs rt imm => Sys2Proof.Machine.execLld rs rt imm s
  | .ldc1 rs rt imm => Sys2Proof.Machine.execLdc1 rs rt imm s
  | .ldc2 rs rt imm => Sys2Proof.Machine.execLdc2 rs rt imm s
  | .ld rs rt imm => Sys2Proof.Machine.execLd rs rt imm s
  | .sc rs rt imm => Sys2Proof.Machine.execSc rs rt imm s
  | .swc1 rs rt imm => Sys2Proof.Machine.execSwc1 rs rt imm s
  | .swc2 rs rt imm => Sys2Proof.Machine.execSwc2 rs rt imm s
  | .scd rs rt imm => Sys2Proof.Machine.execScd rs rt imm s
  | .sdc1 rs rt imm => Sys2Proof.Machine.execSdc1 rs rt imm s
  | .sdc2 rs rt imm => Sys2Proof.Machine.execSdc2 rs rt imm s
  | .sd rs rt imm => Sys2Proof.Machine.execSd rs rt imm s

end Sys2Proof.Machine
end

