-- ==== Sys2Proof/Machine/Step.lean ====
section
/-! DEFINITION. One step: the owner issues its next invocation (10_state.md R20). -/

namespace Sys2Proof.Machine

/-- The invocation issued in `s`: its row's meaning; a fetched word with no row of its own is presented to the decoder
like any other (R86, R102). -/
def issue (inv : Invocation) (s : State) : Out :=
  match decode inv with
  | .ok i => exec i s
  | .error _ => presentWord inv.word s

/-- One step. A marked state has none (R185, R207); with nothing pending the owner issues nothing and nothing changes
(log 1). -/
def step (s : State) : Host.Outcome State Fault Refusal :=
  unlessHalted s (match s.takePending with
    | some (inv, s') => issue inv s'
    | none => .next s)

/-- The fetch stage delivers the word whose bits are `w`: it is what the very next step decodes (log 10). Bits above 31
are no part of a word (R80). -/
def State.withFetchWord (s : State) (nbits w : Nat) : State :=
  s.pushPending ⟨.fetched, BitVec.ofNat 32 (w % 2 ^ nbits)⟩

end Sys2Proof.Machine
end

