-- ==== Sys2Proof/Machine/Consumers.lean ====
section
/-! DEFINITION. What the external consumers read (10_state.md R35). A read has no side effect (R65), and the block
derives no further signal from what it hands out: no effective byte order (D13), no effective privilege level, no
interrupt condition (42_status_decoder.md R156). -/

namespace Sys2Proof.Machine

/-- The instruction dispatcher reads what the decoder's operation returned (R35). -/
def State.dispatcherReads (s : State) : Option (Result Value) := s.result

/-- The interrupt controller reads the mask, `interrupts_enabled` and `exception_level` (R35, R190). -/
def State.interruptControllerReads (s : State) : InterruptMask × Bool × Bool :=
  (s.st.interruptMask, s.st.interruptsEnabled, s.st.exceptionLevel)

/-- The memory subsystem reads `kseg0_cache_enabled` and `endianness` (R35, R61). -/
def State.memorySubsystemReads (s : State) : Bool × Endianness :=
  (s.cfg.kseg0CacheEnabled, s.cfg.endianness)

/-- The TLB and exception-vector logic reads the vector location and `tlb_shutdown` (R35, R70). -/
def State.vectorLogicReads (s : State) : TlbVectorLocation × Bool :=
  (s.st.diagnosticStatus.tlbGeneralExceptionVectorLocation, s.st.diagnosticStatus.tlbShutdown)

end Sys2Proof.Machine
end

