-- ==== Sys2Proof/Safety.lean ====
section
/-! DEFINITION. What counts as a good run: operations issued in order, no fault recorded (60_exceptions.md R185), and
what a run has written to the view registers (41_config_decoder.md R135, 42_status_decoder.md R153). -/

namespace Sys2Proof.Machine

/-- A final state: no fault recorded (R185) and nothing left to issue. -/
def State.final (s : State) : Bool := s.fault.isNone && s.pending.isEmpty

/-- The operations of a list issued in order (R66). -/
def runAll (ops : List Instr) (s : State) : Out :=
  match ops with
  | [] => .next s
  | i :: rest =>
    match exec i s with
    | .next t => runAll rest t
    | .fault f => .fault f
    | .refused r => .refused r

/-- Whether `r` is `ok`. -/
def succeeded {α : Type} (r : Result α) : Bool :=
  match r with
  | .ok _ => true
  | .err _ => false

/-- Whether the operation writes `cfg`: a successful `Config.load`, or `power_on_reset` (R34, R135). The operation is read
off its selector and its word. -/
def writesConfig (i : Instr) : Bool :=
  match (encode i).operation with
  | .configLoad => succeeded (configDecode (encode i).word)
  | .powerOnReset => true
  | _ => false

/-- Whether the operation writes `st`: a successful `Status.load`, and nothing else (R155). -/
def writesStatus (l : StatusLayout) (i : Instr) : Bool :=
  match (encode i).operation with
  | .statusLoad => succeeded (statusDecode l (encode i).word)
  | _ => false

/-- The mark is the error that the last operation returned: it is set exactly when that result is an error, and to that
error (R12, R185). -/
def State.markMatchesResult (s : State) : Prop :=
  ∀ e, s.fault = some e ↔ s.result = some (.err e)

/-- UnrecognizedInstruction where the table has no mnemonic for bits 31:26 of the word (R102). -/
def lookupError (p : Params) (w : Word) : Option DecodeError :=
  if opcodeEntry p.opcodeTable (w.extractLsb' 26 6) = none then some .unrecognizedInstruction else none

/-- InvalidFieldValue for a reserved data-transfer-pattern code (R130, R131). -/
def patternError (raw : Word) : Option DecodeError :=
  if raw.extractLsb' 24 4 ≠ 0 ∧ raw.extractLsb' 24 4 ≠ 6 then some .invalidFieldValue else none

/-- InvalidFieldValue for the mode code `0b11` (R154). -/
def modeError (raw : Word) : Option DecodeError :=
  if raw.extractLsb' 3 2 = 0b11 then some .invalidFieldValue else none

/-- The error that an operation raises, `none` where it returns a value, as the table of R181 has it (R154 for
`Mode.decode`), by its selector and its word. A primary-opcode row is an opcode lookup (R102). -/
def raisedError (p : Params) (i : Instr) : Option DecodeError :=
  match (encode i).operation with
  | .fetched => lookupError p (encode i).word
  | .opcode => lookupError p (encode i).word
  | .rs => none
  | .rt => none
  | .rd => none
  | .imm => none
  | .offset => none
  | .immSignExtended => none
  | .offsetSignExtended => none
  | .configDecode => patternError (encode i).word
  | .configLoad => patternError (encode i).word
  | .powerOnReset => none
  | .write => some .notImplemented
  | .statusDecode => modeError (encode i).word
  | .diagnosticStatusDecode => none
  | .interruptMaskDecode => none
  | .statusLoad => modeError (encode i).word
  | .modeDecode => modeError (encode i).word

/-- A primary-opcode row of opcode_table.json: its opcode, its name in the VR4300 map and its constructor (R85). -/
structure PrimaryRow where
  code : BitVec 6
  mnemonic : Mnemonic
  row : BitVec 5 → BitVec 5 → BitVec 16 → Instr

/-- The 57 primary-opcode rows (R85). -/
def primaryRows : List PrimaryRow :=
  [
   ⟨0, .special, .special⟩, ⟨1, .regimm, .regimm⟩, ⟨2, .j, .j⟩, ⟨3, .jal, .jal⟩,
   ⟨4, .beq, .beq⟩, ⟨5, .bne, .bne⟩, ⟨6, .blez, .blez⟩, ⟨7, .bgtz, .bgtz⟩,
   ⟨8, .addi, .addi⟩, ⟨9, .addiu, .addiu⟩, ⟨10, .slti, .slti⟩, ⟨11, .sltiu, .sltiu⟩,
   ⟨12, .andi, .andi⟩, ⟨13, .ori, .ori⟩, ⟨14, .xori, .xori⟩, ⟨15, .lui, .lui⟩,
   ⟨16, .cop0, .cop0⟩, ⟨17, .cop1, .cop1⟩, ⟨18, .cop2, .cop2⟩, ⟨20, .beql, .beql⟩,
   ⟨21, .bnel, .bnel⟩, ⟨22, .blezl, .blezl⟩, ⟨23, .bgtzl, .bgtzl⟩, ⟨24, .daddi, .daddi⟩,
   ⟨25, .daddiu, .daddiu⟩, ⟨26, .ldl, .ldl⟩, ⟨27, .ldr, .ldr⟩, ⟨32, .lb, .lb⟩,
   ⟨33, .lh, .lh⟩, ⟨34, .lwl, .lwl⟩, ⟨35, .lw, .lw⟩, ⟨36, .lbu, .lbu⟩,
   ⟨37, .lhu, .lhu⟩, ⟨38, .lwr, .lwr⟩, ⟨39, .lwu, .lwu⟩, ⟨40, .sb, .sb⟩,
   ⟨41, .sh, .sh⟩, ⟨42, .swl, .swl⟩, ⟨43, .sw, .sw⟩, ⟨44, .sdl, .sdl⟩,
   ⟨45, .sdr, .sdr⟩, ⟨46, .swr, .swr⟩, ⟨47, .cache, .cache⟩, ⟨48, .ll, .ll⟩,
   ⟨49, .lwc1, .lwc1⟩, ⟨50, .lwc2, .lwc2⟩, ⟨52, .lld, .lld⟩, ⟨53, .ldc1, .ldc1⟩,
   ⟨54, .ldc2, .ldc2⟩, ⟨55, .ld, .ld⟩, ⟨56, .sc, .sc⟩, ⟨57, .swc1, .swc1⟩,
   ⟨58, .swc2, .swc2⟩, ⟨60, .scd, .scd⟩, ⟨61, .sdc1, .sdc1⟩, ⟨62, .sdc2, .sdc2⟩,
   ⟨63, .sd, .sd⟩]

/-- The opcodes with no row (R86). -/
def unlistedOpcodes : List (BitVec 6) := [19, 28, 29, 30, 31, 51, 59]

/-- The Status view is the decode of some raw word under the layout (R150, R153). -/
def State.statusIsDecoded (s : State) : Prop :=
  ∃ raw, statusDecode s.params.statusLayout raw = .ok s.st

end Sys2Proof.Machine
end

