-- ==== Sys2Proof/WellFormed.lean ====
section
/-! DEFINITION. The checks on what the types do not already rule out: invocations and Status layouts. Every operand of an
`Instr` has exactly the width of its field and every value of it is legal (30_encoding.md R86,
40_instruction_decoder.md R110), so an `Instr` needs no check of its own. -/

namespace Sys2Proof

open Sys2Proof.Machine

/-- An invocation that is the encoding of a row: `power_on_reset` has no input port, so its word is 0 (R89), and a
fetched word has a listed primary opcode (R85). -/
def Invocation.wf (inv : Invocation) : Bool :=
  match inv.operation with
  | .fetched => (decodePrimary inv.word).isSome
  | .powerOnReset => inv.word == 0
  | _ => true

/-- Every position of a layout. -/
def StatusLayout.positions (l : StatusLayout) : List (Fin 32) :=
  l.coprocessorUsability.toList ++ l.externalInterruptWriteReq.toList ++ l.softwareInterruptsCauseReg.toList ++
  [l.lowPower, l.additionalFpRegs, l.reverseEndian, l.instructionTraceSupport, l.tlbGeneralExceptionVectorLocation,
   l.tlbShutdown, l.softResetOrNmiOccurred, l.conditionBit, l.timerInterrupt, l.kernelMode64BitAddressing,
   l.supervisorMode64BitAddressing, l.userMode64BitAddressing, l.errorLevel, l.exceptionLevel]

/-- No field of the layout reads a bit that the source gives to another field: bits 31, 4:3 and 0 (R28). -/
def StatusLayout.avoidsFixedBits (l : StatusLayout) : Bool :=
  l.positions.all (fun p => p != 31 && p != 4 && p != 3 && p != 0)

/-- No two fields of the layout share a bit (R33, which states it of the default layout). -/
def StatusLayout.distinctBits (l : StatusLayout) : Bool := decide l.positions.Nodup

/-- A layout of separate bits, apart from those the source fixes. -/
def StatusLayout.wf (l : StatusLayout) : Bool := l.avoidsFixedBits && l.distinctBits

end Sys2Proof
end

