-- ==== Sys2Proof/Certificates/Slice0/Obligations.lean ====
section
/-! DEFINITION. The statements for the provers. Each docstring names the rule of spec/ it formalises. A statement about
every state is one about every opcode table and every Status layout, since both stand in `params` (log 3). A premise
`s.fault = none` says that the owner has not been halted (60_exceptions.md R185, R207). A field `result` is how the model
returns a value to the caller (log 2). -/

open Sys2Proof Sys2Proof.Machine

/-- R102. `opcode()` returns what the table gives bits 31:26, and raises UnrecognizedInstruction where it gives nothing.
That the failing operation is a next state with the
fault mark set is R185 with decision D7, as log 7 (DEDUCED) reads it. -/
def Obligations.OpcodeLooksUpTheTopSixBits : Prop :=
  ∀ (w : Word) (s : State), s.fault = none →
    (∀ m, opcodeEntry s.params.opcodeTable (w.extractLsb' 26 6) = some m →
      exec (.opcode w) s = .next { s with result := some (.ok (.mnemonic m)) }) ∧
    (opcodeEntry s.params.opcodeTable (w.extractLsb' 26 6) = none →
      exec (.opcode w) s = .next { s with
        fault := some .unrecognizedInstruction, result := some (.err .unrecognizedInstruction) })

/-- R103, R104, R105. `rs`, `rt` and `rd` return bits 25:21, 20:16 and 15:11 of every word and write no state; `rd` is the
top five bits of the immediate. -/
def Obligations.RegisterIndicesOfEveryWord : Prop :=
  ∀ (w : Word) (s : State), s.fault = none →
    exec (.rs w) s = .next { s with result := some (.ok (.registerIndex (w.extractLsb' 21 5))) } ∧
    exec (.rt w) s = .next { s with result := some (.ok (.registerIndex (w.extractLsb' 16 5))) } ∧
    exec (.rd w) s = .next { s with result := some (.ok (.registerIndex (w.extractLsb' 11 5))) } ∧
    w.extractLsb' 11 5 = (w.extractLsb' 0 16).extractLsb' 11 5

/-- R106, R107. `imm` and `offset` return bits 15:0, unsigned, of every word, and are one operation. -/
def Obligations.ImmediateAndOffsetOfEveryWord : Prop :=
  ∀ (w : Word) (s : State), s.fault = none →
    exec (.imm w) s = .next { s with result := some (.ok (.immediate (w.extractLsb' 0 16))) } ∧
    exec (.offset w) s = exec (.imm w) s

/-- R108, R109. `imm_sign_extended` and `offset_sign_extended` return bits 15:0 with bit 15 copied into the 48 high bits:
as a signed value `w[15:0] - 65536` where bit 15 is set, else `w[15:0]`; the low 16 bits are the immediate. -/
def Obligations.SignExtensionCopiesBit15 : Prop :=
  ∀ (w : Word) (s : State), s.fault = none →
    ∃ v : BitVec 64,
      exec (.immSignExtended w) s = .next { s with result := some (.ok (.signExtended v)) } ∧
      exec (.offsetSignExtended w) s = exec (.immSignExtended w) s ∧
      v = (if w.getLsbD 15 then 0xFFFFFFFFFFFF#48 ++ w.extractLsb' 0 16 else 0#48 ++ w.extractLsb' 0 16) ∧
      v.toInt = (if w.getLsbD 15 then ((w.extractLsb' 0 16).toNat : Int) - 65536 else (w.extractLsb' 0 16).toNat) ∧
      v.extractLsb' 0 16 = w.extractLsb' 0 16

/-- R113. Every extractor is a total function of its word: in any two unmarked states, whatever their views, it returns
the same value and writes nothing but the returned value (log 2). `opcode` also depends on the opcode table, and on
nothing else; a failing lookup raises the same error in both states and sets the fault mark, which is the one write of an
extractor (R110, R185 with decision D7, as log 7, DEDUCED, reads them). -/
def Obligations.ExtractorsDependOnTheWordAlone : Prop :=
  ∀ (w : Word) (s t : State), s.fault = none → t.fault = none →
    (∀ i ∈ [Instr.rs w, .rt w, .rd w, .imm w, .offset w, .immSignExtended w, .offsetSignExtended w],
      ∃ v, exec i s = .next { s with result := some (.ok v) } ∧ exec i t = .next { t with result := some (.ok v) }) ∧
    (s.params.opcodeTable = t.params.opcodeTable →
      (∃ v, exec (.opcode w) s = .next { s with result := some (.ok v) } ∧
        exec (.opcode w) t = .next { t with result := some (.ok v) }) ∨
      (∃ e, exec (.opcode w) s = .next { s with fault := some e, result := some (.err e) } ∧
        exec (.opcode w) t = .next { t with fault := some e, result := some (.err e) }))

/-- 40_instruction_decoder.md R112, which the spec marks as derived (90_conflicts.md C3): the extractors recover the
fields placed in a word, where the immediate's bits 15:11 agree with rd. -/
def Obligations.ExtractorsRecoverThePlacedFields : Prop :=
  ∀ (o : BitVec 6) (a b c : BitVec 5) (i : BitVec 16) (w : Word) (s : State),
    s.fault = none → i.extractLsb' 11 5 = c → w = o ++ a ++ b ++ i →
    exec (.rs w) s = .next { s with result := some (.ok (.registerIndex a)) } ∧
    exec (.rt w) s = .next { s with result := some (.ok (.registerIndex b)) } ∧
    exec (.rd w) s = .next { s with result := some (.ok (.registerIndex c)) } ∧
    exec (.imm w) s = .next { s with result := some (.ok (.immediate i)) }

/-- The 57 primary-opcode rows (listed by constructor in `primaryRows`, Safety.lean), for every opcode table that gives
their opcode a mnemonic `m`: the word is presented to the decoder, which returns `m` and the fields, and writes no state.
R85, R89, R100 and R102; that a row presents its word to the whole decoder is the model's choice, log 8. -/
def Obligations.PrimaryRowsReturnTheDecoderOutputs : Prop :=
  ∀ r ∈ primaryRows, ∀ (rs rt : BitVec 5) (imm : BitVec 16) (s : State) (m : Mnemonic),
    s.fault = none → opcodeEntry s.params.opcodeTable r.code = some m →
    exec (r.row rs rt imm) s = .next { s with result := some (.ok (.decoder
      { opcode := .ok m, opcodeField := r.code, rs := rs, rt := rt, rd := imm.extractLsb' 11 5, imm := imm,
        immSignExtended := imm.signExtend 64 })) }

/-- The 57 primary-opcode rows under a table that gives their opcode nothing: UnrecognizedInstruction (R102, R183), and
no view is written. That a row presents its word to the whole decoder is the model's choice, log 8; the fault mark is
R185's with decision D7, as log 7 (DEDUCED) reads it. -/
def Obligations.PrimaryRowsWithoutMnemonicRaise : Prop :=
  ∀ r ∈ primaryRows, ∀ (rs rt : BitVec 5) (imm : BitVec 16) (s : State),
    s.fault = none → opcodeEntry s.params.opcodeTable r.code = none →
    exec (r.row rs rt imm) s = .next { s with
      fault := some .unrecognizedInstruction, result := some (.err .unrecognizedInstruction) }

/-- R85, under the informative VR4300 table (general knowledge, PRESUMED, log 12): each row yields the mnemonic of its own
name. That a row returns the outputs of the whole decoder is the model's choice, log 8 (DESIGN CHOICE). -/
def Obligations.Vr4300RowsYieldTheirOwnMnemonic : Prop :=
  ∀ r ∈ primaryRows, ∀ (rs rt : BitVec 5) (imm : BitVec 16) (s : State),
    s.fault = none → s.params.opcodeTable = opcodeTableVr4300 →
    ∃ out : DecoderOutputs, out.opcode = .ok r.mnemonic ∧
      exec (r.row rs rt imm) s = .next { s with result := some (.ok (.decoder out)) }

/-- R86, under the informative VR4300 table (general knowledge, PRESUMED, log 12): `opcode()` fails exactly on the opcodes
19, 28, 29, 30, 31, 51 and 59. R86 gives the verdict; that the failure is a next state with the fault mark set is R185 with
decision D7, as log 7 (DEDUCED) reads it. -/
def Obligations.Vr4300ReservedOpcodesAreUnrecognized : Prop :=
  ∀ (w : Word) (s : State), s.fault = none → s.params.opcodeTable = opcodeTableVr4300 →
    ((∃ t, exec (.opcode w) s = .next t ∧ t.fault = some .unrecognizedInstruction) ↔
      (w.extractLsb' 26 6 : BitVec 6) ∈ ([19, 28, 29, 30, 31, 51, 59] : List (BitVec 6)))

/-- R130, R131. `Config.decode`: code 0 or 6 in bits 27:24, and then bit 15, bit 3 and bits 2:0; any other code raises
InvalidFieldValue and no view is produced. That the last branch is a next state with the fault mark set is R185 with
decision D7, as log 7 (DEDUCED) reads it. -/
def Obligations.ConfigDecodeReadsItsFields : Prop :=
  ∀ (raw : Word) (s : State), s.fault = none →
    exec (.configDecode raw) s =
      (if raw.extractLsb' 24 4 = 0#4 then
        .next { s with result := some (.ok (.config
          { dataTransferPattern := .normal, endianness := if raw.getLsbD 15 then .big else .little,
            cu := raw.getLsbD 3, kseg0CacheEnabled := decide (raw.extractLsb' 0 3 ≠ 0b010#3) })) }
      else if raw.extractLsb' 24 4 = 6#4 then
        .next { s with result := some (.ok (.config
          { dataTransferPattern := .dxxDxx, endianness := if raw.getLsbD 15 then .big else .little,
            cu := raw.getLsbD 3, kseg0CacheEnabled := decide (raw.extractLsb' 0 3 ≠ 0b010#3) })) }
      else .next { s with fault := some .invalidFieldValue, result := some (.err .invalidFieldValue) })

/-- 10_state.md R26, which the spec marks as derived: the Config decode and the load read bits 27:24, 15 and 3:0 and no
others. -/
def Obligations.ConfigOperationsReadNoOtherBits : Prop :=
  ∀ (raw raw' : Word) (s : State), raw &&& 0x0F00800F#32 = raw' &&& 0x0F00800F#32 →
    exec (.configDecode raw) s = exec (.configDecode raw') s ∧ exec (.configLoad raw) s = exec (.configLoad raw') s

/-- R132 with decisions D7 and D9. `Config.load` replaces the whole Config view by the decode of its word, and on a
reserved code leaves it and raises InvalidFieldValue, in a next state with the mark set (log 7). -/
def Obligations.ConfigLoadReplacesTheWholeView : Prop :=
  ∀ (raw : Word) (s : State), s.fault = none →
    (∀ v, configDecode raw = .ok v → exec (.configLoad raw) s = .next { s with cfg := v, result := some (.ok .done) }) ∧
    (raw.extractLsb' 24 4 ≠ 0#4 → raw.extractLsb' 24 4 ≠ 6#4 →
      exec (.configLoad raw) s = .next { s with
        fault := some .invalidFieldValue, result := some (.err .invalidFieldValue) })

/-- R133. `power_on_reset()` forces Normal and Big, keeps `cu` and `kseg0_cache_enabled` at the values they held, writes
nothing else, cannot fail, and a second call changes no view. -/
def Obligations.PowerOnResetForcesTwoFieldsOnly : Prop :=
  ∀ (s : State), s.fault = none →
    ∃ t, exec .powerOnReset s = .next t ∧ exec .powerOnReset t = .next t ∧
      t = { s with
        cfg := { dataTransferPattern := .normal, endianness := .big, cu := s.cfg.cu,
                 kseg0CacheEnabled := s.cfg.kseg0CacheEnabled },
        result := some (.ok .done) }

/-- R134 with decision D8. `write(data)` fails with NotImplemented whatever the data, a reserved code in bits 27:24
included, and writes no view; the next state has the mark set (log 7). -/
def Obligations.ConfigWriteAlwaysFailsNotImplemented : Prop :=
  ∀ (data : Word) (s : State), s.fault = none →
    exec (.write data) s = .next { s with fault := some .notImplemented, result := some (.err .notImplemented) }

/-- R181, R184. In an unmarked state every operation answers a next state, and the mark it leaves is the error that the
table of R181 gives the operation, and no other: NotImplemented comes from `write` alone. `Mode.decode` is no row of that
table; its error is R154's. That an error is a mark left in a next state is R185 with decision D7, as log 7 (DEDUCED)
reads it; that a primary-opcode row raises what `opcode()` raises is the model's choice, log 8. -/
def Obligations.EveryOperationRaisesItsOwnErrorOnly : Prop :=
  ∀ (i : Instr) (s : State), s.fault = none →
    ∃ t, exec i s = .next t ∧ t.fault = raisedError s.params i ∧
      (t.fault = some .notImplemented ↔ ∃ data, i = .write data)

/-- R150 (with R151, R152 and R154 for its parts), for every Status layout: the view of `Status.decode`, field by field,
and InvalidFieldValue exactly where bits 4:3 are `0b11`. The layout with its index order is a parameter (decisions D4 and
D5, log 3); that the failing branch is a next state with the fault mark set is R185 with decision D7, as log 7 (DEDUCED)
reads it. -/
def Obligations.StatusDecodeReadsTheLayout : Prop :=
  ∀ (raw : Word) (s : State) (l : StatusLayout), s.fault = none → l = s.params.statusLayout →
    exec (.statusDecode raw) s =
      (if raw.extractLsb' 3 2 = 0b11#2 then
        .next { s with fault := some .invalidFieldValue, result := some (.err .invalidFieldValue) }
      else
        .next { s with result := some (.ok (.status
          { coprocessorUsability :=
              #v[raw.getLsbD l.coprocessorUsability[0], raw.getLsbD l.coprocessorUsability[1],
                 raw.getLsbD l.coprocessorUsability[2], raw.getLsbD 31]
            lowPower := raw.getLsbD l.lowPower
            additionalFpRegs := raw.getLsbD l.additionalFpRegs
            reverseEndian := raw.getLsbD l.reverseEndian
            diagnosticStatus :=
              { instructionTraceSupport := raw.getLsbD l.instructionTraceSupport
                tlbShutdown := raw.getLsbD l.tlbShutdown
                softResetOrNmiOccurred := raw.getLsbD l.softResetOrNmiOccurred
                conditionBit := raw.getLsbD l.conditionBit
                tlbGeneralExceptionVectorLocation :=
                  if raw.getLsbD l.tlbGeneralExceptionVectorLocation then .bootstrap else .normal }
            interruptMask :=
              { timerInterrupt := raw.getLsbD l.timerInterrupt
                externalInterruptWriteReq :=
                  #v[raw.getLsbD l.externalInterruptWriteReq[0], raw.getLsbD l.externalInterruptWriteReq[1],
                     raw.getLsbD l.externalInterruptWriteReq[2], raw.getLsbD l.externalInterruptWriteReq[3],
                     raw.getLsbD l.externalInterruptWriteReq[4]]
                softwareInterruptsCauseReg :=
                  #v[raw.getLsbD l.softwareInterruptsCauseReg[0], raw.getLsbD l.softwareInterruptsCauseReg[1]] }
            kernelMode64BitAddressing := raw.getLsbD l.kernelMode64BitAddressing
            supervisorMode64BitAddressing := raw.getLsbD l.supervisorMode64BitAddressing
            userMode64BitAddressing := raw.getLsbD l.userMode64BitAddressing
            mode := if raw.extractLsb' 3 2 = 0b00#2 then .kernel
                    else if raw.extractLsb' 3 2 = 0b01#2 then .supervisor else .user
            errorLevel := raw.getLsbD l.errorLevel
            exceptionLevel := raw.getLsbD l.exceptionLevel
            interruptsEnabled := raw.getLsbD 0 })) })

/-- The bit positions of R29 and R32, the default layout (general knowledge, PRESUMED, log 11): where bits 4:3 are not
`0b11`, a load leaves each Status field at the value of its bit, and the mode at the one R154 gives bits 4:3. -/
def Obligations.DefaultLayoutBitPositions : Prop :=
  ∀ (raw : Word) (s : State), s.fault = none → s.params.statusLayout = statusLayoutVr4300 →
    raw.extractLsb' 3 2 ≠ 0b11#2 →
    ∃ t, exec (.statusLoad raw) s = .next t ∧
      t.st.coprocessorUsability = #v[raw.getLsbD 28, raw.getLsbD 29, raw.getLsbD 30, raw.getLsbD 31] ∧
      t.st.lowPower = raw.getLsbD 27 ∧ t.st.additionalFpRegs = raw.getLsbD 26 ∧ t.st.reverseEndian = raw.getLsbD 25 ∧
      t.st.diagnosticStatus.instructionTraceSupport = raw.getLsbD 24 ∧
      (t.st.diagnosticStatus.tlbGeneralExceptionVectorLocation = .bootstrap ↔ raw.getLsbD 22 = true) ∧
      t.st.diagnosticStatus.tlbShutdown = raw.getLsbD 21 ∧
      t.st.diagnosticStatus.softResetOrNmiOccurred = raw.getLsbD 20 ∧
      t.st.diagnosticStatus.conditionBit = raw.getLsbD 18 ∧
      t.st.interruptMask.timerInterrupt = raw.getLsbD 15 ∧
      t.st.interruptMask.externalInterruptWriteReq =
        #v[raw.getLsbD 10, raw.getLsbD 11, raw.getLsbD 12, raw.getLsbD 13, raw.getLsbD 14] ∧
      t.st.interruptMask.softwareInterruptsCauseReg = #v[raw.getLsbD 8, raw.getLsbD 9] ∧
      t.st.kernelMode64BitAddressing = raw.getLsbD 7 ∧ t.st.supervisorMode64BitAddressing = raw.getLsbD 6 ∧
      t.st.userMode64BitAddressing = raw.getLsbD 5 ∧
      t.st.mode = (if raw.extractLsb' 3 2 = 0b00#2 then .kernel
                   else if raw.extractLsb' 3 2 = 0b01#2 then .supervisor else .user) ∧
      t.st.errorLevel = raw.getLsbD 2 ∧
      t.st.exceptionLevel = raw.getLsbD 1 ∧ t.st.interruptsEnabled = raw.getLsbD 0

/-- 10_state.md R33, which the spec marks as derived, under the default layout (PRESUMED, log 11): the Status decode and
the load do not read bits 23, 19, 17 and 16. -/
def Obligations.StatusOperationsReadNoIgnoredBit : Prop :=
  ∀ (raw raw' : Word) (s : State), s.params.statusLayout = statusLayoutVr4300 →
    raw &&& 0xFF74FFFF#32 = raw' &&& 0xFF74FFFF#32 →
    exec (.statusDecode raw) s = exec (.statusDecode raw') s ∧ exec (.statusLoad raw) s = exec (.statusLoad raw') s

/-- R151 and R152 for every layout: the two sub-register decodes are total, return the fields that the Status decode of
the same word returns, and write no state. -/
def Obligations.SubRegisterDecodesAreTotal : Prop :=
  ∀ (raw : Word) (s : State) (l : StatusLayout), s.fault = none → l = s.params.statusLayout →
    exec (.diagnosticStatusDecode raw) s = .next { s with result := some (.ok (.diagnosticStatus
      { instructionTraceSupport := raw.getLsbD l.instructionTraceSupport
        tlbShutdown := raw.getLsbD l.tlbShutdown
        softResetOrNmiOccurred := raw.getLsbD l.softResetOrNmiOccurred
        conditionBit := raw.getLsbD l.conditionBit
        tlbGeneralExceptionVectorLocation :=
          if raw.getLsbD l.tlbGeneralExceptionVectorLocation then .bootstrap else .normal })) } ∧
    exec (.interruptMaskDecode raw) s = .next { s with result := some (.ok (.interruptMask
      { timerInterrupt := raw.getLsbD l.timerInterrupt
        externalInterruptWriteReq :=
          #v[raw.getLsbD l.externalInterruptWriteReq[0], raw.getLsbD l.externalInterruptWriteReq[1],
             raw.getLsbD l.externalInterruptWriteReq[2], raw.getLsbD l.externalInterruptWriteReq[3],
             raw.getLsbD l.externalInterruptWriteReq[4]]
        softwareInterruptsCauseReg :=
          #v[raw.getLsbD l.softwareInterruptsCauseReg[0], raw.getLsbD l.softwareInterruptsCauseReg[1]] })) } ∧
    (∀ v, statusDecode l raw = .ok v →
      v.diagnosticStatus = diagnosticStatusDecode l raw ∧ v.interruptMask = interruptMaskDecode l raw)

/-- R154. `Mode.decode` of bits 4:3: Kernel, Supervisor, User, and InvalidFieldValue for `0b11`. That the
last branch is a next state with the fault mark set is R185 with decision D7, as log 7 (DEDUCED) reads it. -/
def Obligations.ModeDecodeMapsThreeCodes : Prop :=
  ∀ (raw : Word) (s : State), s.fault = none →
    exec (.modeDecode raw) s =
      (if raw.extractLsb' 3 2 = 0b00#2 then .next { s with result := some (.ok (.mode .kernel)) }
      else if raw.extractLsb' 3 2 = 0b01#2 then .next { s with result := some (.ok (.mode .supervisor)) }
      else if raw.extractLsb' 3 2 = 0b10#2 then .next { s with result := some (.ok (.mode .user)) }
      else .next { s with fault := some .invalidFieldValue, result := some (.err .invalidFieldValue) })

/-- R153 with decisions D7 and D9. `Status.load` replaces the whole Status view by the decode of its word, and on mode
`0b11` leaves it and raises InvalidFieldValue, in a next state with the mark set (log 7). -/
def Obligations.StatusLoadReplacesTheWholeView : Prop :=
  ∀ (raw : Word) (s : State), s.fault = none →
    (∀ v, statusDecode s.params.statusLayout raw = .ok v →
      exec (.statusLoad raw) s = .next { s with st := v, result := some (.ok .done) }) ∧
    (raw.extractLsb' 3 2 = 0b11#2 →
      exec (.statusLoad raw) s = .next { s with
        fault := some .invalidFieldValue, result := some (.err .invalidFieldValue) })

/-- R28, which the spec marks as derived: for every layout whose fields avoid bits 31, 4:3 and 0, the word 0x80000001
decodes to `coprocessor_usability[3]` and `interrupts_enabled` true and every other field false or default (E7). -/
def Obligations.SourceScenarioHoldsForEveryLayout : Prop :=
  ∀ (s : State), s.fault = none → s.params.statusLayout.avoidsFixedBits = true →
    exec (.statusDecode 0x80000001#32) s = .next { s with result := some (.ok (.status
      { statusInit with
        coprocessorUsability := #v[false, false, false, true], interruptsEnabled := true })) }

/-- R39, which the spec marks as derived: for every layout the view of CP0 initialization is the one the decode gives an
all-zero word. -/
def Obligations.ZeroWordDecodesToTheInitialStatus : Prop :=
  ∀ (s : State), s.fault = none →
    exec (.statusDecode 0#32) s = .next { s with result := some (.ok (.status statusInit)) }

/-- R38, R39, R40 and R201, which rest on decision D6 (log 5, 6): the state after CP0 initialization for any parameters
and any draws, and after `power_on_reset` then. The host's reset state is one of them (log 11, 12). -/
def Obligations.InitializationThenPowerOnReset : Prop :=
  (∃ p dtp endian, core.reset = State.init p dtp endian) ∧
  ∀ (p : Params) (dtp : DataTransferPattern) (endian : Endianness),
    (State.init p dtp endian).cfg =
      { dataTransferPattern := dtp, endianness := endian, cu := false, kseg0CacheEnabled := false } ∧
    (State.init p dtp endian).st =
      { coprocessorUsability := #v[false, false, false, false], lowPower := false, additionalFpRegs := false,
        reverseEndian := false,
        diagnosticStatus := { instructionTraceSupport := false, tlbShutdown := false, softResetOrNmiOccurred := false,
                              conditionBit := false, tlbGeneralExceptionVectorLocation := .normal },
        interruptMask := { timerInterrupt := false, externalInterruptWriteReq := #v[false, false, false, false, false],
                           softwareInterruptsCauseReg := #v[false, false] },
        kernelMode64BitAddressing := false, supervisorMode64BitAddressing := false, userMode64BitAddressing := false,
        mode := .kernel, errorLevel := false, exceptionLevel := false, interruptsEnabled := false } ∧
    (State.init p dtp endian).fault = none ∧
    ∃ t, exec .powerOnReset (State.init p dtp endian) = .next t ∧
      t.cfg = { dataTransferPattern := .normal, endianness := .big, cu := false, kseg0CacheEnabled := false } ∧
      t.st = (State.init p dtp endian).st ∧ t.fault = none

/-- The frame of every operation, from R34, R36, R113 and R155: only a successful `Config.load` and `power_on_reset` write
the Config view, the latter two of its fields; only a successful `Status.load` writes the Status view; the mark changes
only where R181 names an error; the parameters and the owner's queue (log 1, 3) never change. -/
def Obligations.OnlyLoadsAndResetWriteTheViews : Prop :=
  ∀ (i : Instr) (s t : State), exec i s = .next t →
    (writesConfig i = false → t.cfg = s.cfg) ∧
    (writesStatus s.params.statusLayout i = false → t.st = s.st) ∧
    (i = .powerOnReset → t.cfg.cu = s.cfg.cu ∧ t.cfg.kseg0CacheEnabled = s.cfg.kseg0CacheEnabled) ∧
    (raisedError s.params i = none → t.fault = s.fault) ∧
    t.params = s.params ∧ t.pending = s.pending

/-- R185, points 1 and 2 (decision D7): an operation that leaves the mark set has returned that error and changed nothing
else. -/
def Obligations.FailingOperationWritesNothing : Prop :=
  ∀ (i : Instr) (s t : State) (e : DecodeError), exec i s = .next t → t.fault = some e →
    t = { s with fault := some e, result := some (.err e) }

/-- R185, point 3, and R207 (decision D7): once the mark is set no operation completes and the owner has no further step,
whatever is pending, in a run of any length. -/
def Obligations.OwnerHasNoStepAfterAFault : Prop :=
  ∀ (s : State) (e : DecodeError), s.fault = some e →
    (∀ i, exec i s = .fault (.ownerHalted e)) ∧ step s = .fault (.ownerHalted e) ∧
    ∀ k, core.run (k + 1) s = .fault (.ownerHalted e)

/-- R12, R183 and R185 as an invariant: the fault mark is the error that the last operation returned, and an error is
never returned without it. Every step keeps it, in states no run reaches too. -/
def Obligations.StepKeepsTheMarkEqualToTheResult : Prop :=
  ∀ (s t : State), s.markMatchesResult → step s = .next t → t.markMatchesResult

/-- The invariant of `StepKeepsTheMarkEqualToTheResult` holds after reset (R40; log 2). -/
def Obligations.ResetMarkEqualsTheResult : Prop := core.reset.markMatchesResult

/-- R150, R153, R155: for every layout, a Status view that is the decode of some word stays one through every step. -/
def Obligations.StepKeepsStatusADecodedView : Prop :=
  ∀ (s t : State), s.statusIsDecoded → step s = .next t → t.statusIsDecoded

/-- The invariant of `StepKeepsStatusADecodedView` holds after CP0 initialization for any parameters and draws (R39). -/
def Obligations.InitialStatusIsADecodedView : Prop :=
  ∀ (p : Params) (dtp : DataTransferPattern) (endian : Endianness), (State.init p dtp endian).statusIsDecoded

/-- A step issues the owner's next invocation (R20; log 1): where it decodes to `i`, the step is `i` in the state with
that invocation taken from the queue. -/
def Obligations.StepRunsTheDecodedInvocation : Prop :=
  ∀ (s : State) (inv : Invocation) (rest : List Invocation) (i : Instr),
    s.fault = none → s.pending = inv :: rest → decode inv = .ok i → step s = exec i { s with pending := rest }

/-- R100, R102: what the decoder gives for a word. The model's choices: that a fetched word yields all outputs in one step
is log 8 (DESIGN CHOICE), and that a word with no row of its own is still looked up in the table is log 14 (DEDUCED from
R102 and R86); that the failing branch is a next state with the fault mark set is R185 with decision D7, as log 7
(DEDUCED) reads it. -/
def Obligations.StepPresentsEveryFetchedWord : Prop :=
  ∀ (w : Word) (s : State) (rest : List Invocation), s.fault = none → s.pending = ⟨.fetched, w⟩ :: rest →
    step s = (match opcodeEntry s.params.opcodeTable (w.extractLsb' 26 6) with
      | some m => .next { s with pending := rest, result := some (.ok (.decoder
          { opcode := .ok m, opcodeField := w.extractLsb' 26 6, rs := w.extractLsb' 21 5, rt := w.extractLsb' 16 5,
            rd := w.extractLsb' 11 5, imm := w.extractLsb' 0 16,
            immSignExtended := (w.extractLsb' 0 16).signExtend 64 })) }
      | none => .next { s with pending := rest, fault := some .unrecognizedInstruction,
                               result := some (.err .unrecognizedInstruction) })

/-- The model's choice of log 1: with nothing pending the owner issues nothing, and a step changes nothing. -/
def Obligations.StepWithNothingPendingIsIdle : Prop :=
  ∀ (s : State), s.fault = none → s.pending = [] → step s = .next s

/-- The delivery of a word by the fetch stage (R20, R21; log 10): the row that the decoder reads from it is what the very
next step runs, in the state as it was. -/
def Obligations.DeliveredWordRunsNext : Prop :=
  ∀ (s : State) (nbits w : Nat) (i : Instr), s.fault = none → decodeTableWord nbits w = some i →
    step (s.withFetchWord nbits w) = exec i s

/-- R81, R85, R89: decoding the encoding of any row gives the row back, with every operand at every value. -/
def Obligations.DecodeOfEncodeIsTheInstruction : Prop := ∀ i : Instr, decode (encode i) = .ok i

/-- R85, R89: the well-formed invocations are exactly the encodings of rows, and each has one row. -/
def Obligations.WellFormedInvocationsAreTheEncodings : Prop :=
  ∀ inv : Invocation, (inv.wf = true ↔ ∃ i, encode i = inv) ∧
    ∀ i, inv.wf = true → decode inv = .ok i → encode i = inv

/-- R86, log 9: a fetched word is refused a row, by name, exactly where its opcode is one of the seven unlisted ones, and no
other invocation is refused. -/
def Obligations.UnlistedOpcodesAreRefusedByName : Prop :=
  ∀ (inv : Invocation) (e : DecodeRefusal),
    decode inv = .error e ↔
      inv.operation = .fetched ∧ inv.word.extractLsb' 26 6 ∈ unlistedOpcodes ∧
        e = .unlistedOpcode (inv.word.extractLsb' 26 6)

/-- Words written out from R81 and R85, as 95_test_vectors.md has them (DI2 and DI5 of section 2.1, P1 and P2 of section
3), decode to the rows they stand for. That a bare word is read as a fetched one, and that the owner's operations are told
apart by a selector beside the word, is the model's choice, log 9 (DESIGN CHOICE). -/
def Obligations.WordsOfTheSpecDecodeToTheirRows : Prop :=
  decodeTableWord 32 0x3C088000 = some (.lui 0 8 0x8000) ∧
  decodeTableWord 32 0x8D090004 = some (.lw 8 9 4) ∧
  decodeTableWord 32 0x1109FFFE = some (.beq 8 9 0xFFFE) ∧
  decodeTableWord 32 0x27BDFFF0 = some (.addiu 29 29 0xFFF0) ∧
  decodeTableWord 32 0xFFFFFFFF = some (.sd 31 31 0xFFFF) ∧
  decodeTableWord 32 0x7FFF7FFF = none ∧
  decode ⟨.configLoad, 0x0006E463#32⟩ = .ok (.configLoad 0x0006E463#32) ∧
  decode ⟨.statusLoad, 0x34000000#32⟩ = .ok (.statusLoad 0x34000000#32) ∧
  decode ⟨.powerOnReset, 0#32⟩ = .ok .powerOnReset

/-- The model's choice of log 2: no operation reads the value returned to the last caller. -/
def Obligations.NoOperationReadsTheLastResult : Prop :=
  ∀ (i : Instr) (s : State) (r : Option (Result Value)), s.fault = none →
    exec i { s with result := r } = exec i s

/-- R113, R156, R191: no privilege check, no derived signal. What an operation returns and whether it fails do not depend
on either view, the mode included. -/
def Obligations.TheViewsGateNoOperation : Prop :=
  ∀ (i : Instr) (s t : State) (c : ConfigView) (v : StatusView), exec i s = .next t →
    ∃ t', exec i { s with cfg := c, st := v } = .next t' ∧ t'.result = t.result ∧ t'.fault = t.fault ∧
      (writesStatus s.params.statusLayout i = true → t'.st = t.st) ∧
      (writesStatus s.params.statusLayout i = false → t'.st = v)

/-- R204: no run changes the parameters. -/
def Obligations.RunsKeepTheParameters : Prop :=
  ∀ (k : Nat) (s t : State), core.run k s = .next t → t.params = s.params

/-- R65, R66: the operations take effect in the order the owner issues them. A run over a queue of encoded operations is
those operations one after another, up to the first that halts the owner. That the owner's operations stand in a pending
queue is the model's choice, log 1 (DESIGN CHOICE). -/
def Obligations.QueueRunsInTheOrderIssued : Prop :=
  ∀ (ops : List Instr) (s : State) (rest : List Invocation),
    core.run ops.length { s with pending := ops.map encode ++ rest } = runAll ops { s with pending := rest }

/-- 41_config_decoder.md R135, which the spec marks as derived: after any sequence of operations the Config view is the
one it started with, or the decode of the last word loaded, or the one that the last `power_on_reset` left. -/
def Obligations.ConfigViewFollowsItsLastWrite : Prop :=
  ∀ (ops : List Instr) (s t : State), runAll ops s = .next t →
    ((∀ i ∈ ops, writesConfig i = false) → t.cfg = s.cfg) ∧
    (∀ pre post raw v, ops = pre ++ .configLoad raw :: post → configDecode raw = .ok v →
      (∀ i ∈ post, writesConfig i = false) → t.cfg = v) ∧
    (∀ pre post, ops = pre ++ .powerOnReset :: post → (∀ i ∈ post, writesConfig i = false) →
      ∃ u, runAll pre s = .next u ∧
        t.cfg = { dataTransferPattern := .normal, endianness := .big, cu := u.cfg.cu,
                  kseg0CacheEnabled := u.cfg.kseg0CacheEnabled })

/-- R153, R155, R206: after any sequence of operations the Status view is the one it started with, or the decode of the
last word loaded. -/
def Obligations.StatusViewFollowsItsLastLoad : Prop :=
  ∀ (ops : List Instr) (s t : State), runAll ops s = .next t →
    ((∀ i ∈ ops, writesStatus s.params.statusLayout i = false) → t.st = s.st) ∧
    (∀ pre post raw v, ops = pre ++ .statusLoad raw :: post → statusDecode s.params.statusLayout raw = .ok v →
      (∀ i ∈ post, writesStatus s.params.statusLayout i = false) → t.st = v)

/-- R203 (decision D6): after CP0 initialization, once a `power_on_reset` or a successful `Config.load` has been issued,
nothing in the state depends on the two draws. -/
def Obligations.DrawsVanishAfterTheFirstConfigWrite : Prop :=
  ∀ (ops : List Instr) (p : Params) (d d' : DataTransferPattern) (e e' : Endianness) (t t' : State),
    (∃ i ∈ ops, writesConfig i = true) →
    runAll ops (State.init p d e) = .next t → runAll ops (State.init p d' e') = .next t' → t = t'

/-- R35, R65, R205: a field read after a load or a `power_on_reset` gives the new value at once, to every consumer. -/
def Obligations.ConsumersReadTheNewValueAtOnce : Prop :=
  ∀ (s : State), s.fault = none →
    (∀ raw v, configDecode raw = .ok v →
      ∃ t, exec (.configLoad raw) s = .next t ∧ t.memorySubsystemReads = (v.kseg0CacheEnabled, v.endianness)) ∧
    (∃ t, exec .powerOnReset s = .next t ∧ t.memorySubsystemReads = (s.cfg.kseg0CacheEnabled, .big)) ∧
    (∀ raw v, statusDecode s.params.statusLayout raw = .ok v →
      ∃ t, exec (.statusLoad raw) s = .next t ∧
        t.interruptControllerReads = (v.interruptMask, v.interruptsEnabled, v.exceptionLevel) ∧
        t.vectorLogicReads =
          (v.diagnosticStatus.tlbGeneralExceptionVectorLocation, v.diagnosticStatus.tlbShutdown))
end

