-- ==== Sys2Proof/Laws/State.lean ====
section
/-! SUPPORT. One lemma per field per update of the state, so that no proof unfolds a record update. -/

namespace Sys2Proof.Machine

@[simp] theorem State.writeCfg_cfg (v : ConfigView) (s : State) : (s.writeCfg v).cfg = v := rfl
@[simp] theorem State.writeCfg_st (v : ConfigView) (s : State) : (s.writeCfg v).st = s.st := rfl
@[simp] theorem State.writeCfg_fault (v : ConfigView) (s : State) : (s.writeCfg v).fault = s.fault := rfl
@[simp] theorem State.writeCfg_params (v : ConfigView) (s : State) : (s.writeCfg v).params = s.params := rfl
@[simp] theorem State.writeCfg_pending (v : ConfigView) (s : State) : (s.writeCfg v).pending = s.pending := rfl
@[simp] theorem State.writeCfg_result (v : ConfigView) (s : State) : (s.writeCfg v).result = s.result := rfl

@[simp] theorem State.writeSt_cfg (v : StatusView) (s : State) : (s.writeSt v).cfg = s.cfg := rfl
@[simp] theorem State.writeSt_st (v : StatusView) (s : State) : (s.writeSt v).st = v := rfl
@[simp] theorem State.writeSt_fault (v : StatusView) (s : State) : (s.writeSt v).fault = s.fault := rfl
@[simp] theorem State.writeSt_params (v : StatusView) (s : State) : (s.writeSt v).params = s.params := rfl
@[simp] theorem State.writeSt_pending (v : StatusView) (s : State) : (s.writeSt v).pending = s.pending := rfl
@[simp] theorem State.writeSt_result (v : StatusView) (s : State) : (s.writeSt v).result = s.result := rfl

@[simp] theorem State.answer_cfg (v : Value) (s : State) : (s.answer v).cfg = s.cfg := rfl
@[simp] theorem State.answer_st (v : Value) (s : State) : (s.answer v).st = s.st := rfl
@[simp] theorem State.answer_fault (v : Value) (s : State) : (s.answer v).fault = s.fault := rfl
@[simp] theorem State.answer_params (v : Value) (s : State) : (s.answer v).params = s.params := rfl
@[simp] theorem State.answer_pending (v : Value) (s : State) : (s.answer v).pending = s.pending := rfl
@[simp] theorem State.answer_result (v : Value) (s : State) : (s.answer v).result = some (.ok v) := rfl

@[simp] theorem State.raise_cfg (e : DecodeError) (s : State) : (s.raise e).cfg = s.cfg := rfl
@[simp] theorem State.raise_st (e : DecodeError) (s : State) : (s.raise e).st = s.st := rfl
@[simp] theorem State.raise_fault (e : DecodeError) (s : State) : (s.raise e).fault = some e := rfl
@[simp] theorem State.raise_params (e : DecodeError) (s : State) : (s.raise e).params = s.params := rfl
@[simp] theorem State.raise_pending (e : DecodeError) (s : State) : (s.raise e).pending = s.pending := rfl
@[simp] theorem State.raise_result (e : DecodeError) (s : State) : (s.raise e).result = some (.err e) := rfl

@[simp] theorem State.pushPending_cfg (inv : Invocation) (s : State) : (s.pushPending inv).cfg = s.cfg := rfl
@[simp] theorem State.pushPending_st (inv : Invocation) (s : State) : (s.pushPending inv).st = s.st := rfl
@[simp] theorem State.pushPending_fault (inv : Invocation) (s : State) : (s.pushPending inv).fault = s.fault := rfl
@[simp] theorem State.pushPending_params (inv : Invocation) (s : State) : (s.pushPending inv).params = s.params := rfl
@[simp] theorem State.pushPending_pending (inv : Invocation) (s : State) : (s.pushPending inv).pending = inv :: s.pending := rfl
@[simp] theorem State.pushPending_result (inv : Invocation) (s : State) : (s.pushPending inv).result = s.result := rfl

@[simp] theorem State.init_cfg (p : Params) (dtp : DataTransferPattern) (endian : Endianness) :
    (State.init p dtp endian).cfg = configInit dtp endian := rfl
@[simp] theorem State.init_st (p : Params) (dtp : DataTransferPattern) (endian : Endianness) :
    (State.init p dtp endian).st = statusInit := rfl
@[simp] theorem State.init_fault (p : Params) (dtp : DataTransferPattern) (endian : Endianness) :
    (State.init p dtp endian).fault = none := rfl
@[simp] theorem State.init_params (p : Params) (dtp : DataTransferPattern) (endian : Endianness) :
    (State.init p dtp endian).params = p := rfl
@[simp] theorem State.init_pending (p : Params) (dtp : DataTransferPattern) (endian : Endianness) :
    (State.init p dtp endian).pending = [] := rfl
@[simp] theorem State.init_result (p : Params) (dtp : DataTransferPattern) (endian : Endianness) :
    (State.init p dtp endian).result = none := rfl

/-- The fetch stage's delivery is one push. -/
theorem State.withFetchWord_eq (s : State) (nbits w : Nat) :
    s.withFetchWord nbits w = s.pushPending ⟨.fetched, BitVec.ofNat 32 (w % 2 ^ nbits)⟩ := rfl

/-- What was pushed is taken first, in the state as it was. -/
@[simp] theorem State.takePending_pushPending (inv : Invocation) (s : State) :
    (s.pushPending inv).takePending = some (inv, s) := rfl

end Sys2Proof.Machine
end

