-- ==== Sys2Proof/Laws/Ops.lean ====
section
/-! SUPPORT. What each shared operation can do, once, for proofs to cite. -/

namespace Sys2Proof.Machine

theorem unlessHalted_live {s : State} (h : s.fault = none) (t : Out) : unlessHalted s t = t := by
  simp [unlessHalted, h]

theorem unlessHalted_halted {s : State} {e : DecodeError} (h : s.fault = some e) (t : Out) :
    unlessHalted s t = .fault (.ownerHalted e) := by
  simp [unlessHalted, h]

/-- A next state comes only from an unmarked state, and is the one offered. -/
theorem unlessHalted_next {s t : State} {o : Out} (h : unlessHalted s o = .next t) :
    s.fault = none ∧ o = .next t := by
  cases hf : s.fault with
  | none => exact ⟨rfl, by rwa [unlessHalted_live hf] at h⟩
  | some e => rw [unlessHalted_halted hf] at h; cases h

theorem finish_ok {s : State} (h : s.fault = none) (v : Value) (t : State) :
    finish s (.ok (v, t)) = .next (t.answer v) := unlessHalted_live h _

theorem finish_err {s : State} (h : s.fault = none) (e : DecodeError) :
    finish s (.err e) = .next (s.raise e) := unlessHalted_live h _

/-- An operation that answers a next state either returned a value, with its writes, or raised an error and wrote
nothing. -/
theorem finish_next {s t : State} {r : Result (Value × State)} (h : finish s r = .next t) :
    s.fault = none ∧ ((∃ v u, r = .ok (v, u) ∧ t = u.answer v) ∨ (∃ e, r = .err e ∧ t = s.raise e)) := by
  obtain ⟨hf, h⟩ := unlessHalted_next h
  refine ⟨hf, ?_⟩
  cases r with
  | ok p => exact .inl ⟨p.1, p.2, rfl, by cases h; rfl⟩
  | err e => exact .inr ⟨e, rfl, by cases h; rfl⟩

theorem finishPure_ok {s : State} (h : s.fault = none) (v : Value) :
    finishPure s (.ok v) = .next (s.answer v) := finish_ok h v s

theorem finishPure_err {s : State} (h : s.fault = none) (e : DecodeError) :
    finishPure s (.err e) = .next (s.raise e) := finish_err h e

/-- A pure operation that answers a next state returned its result and wrote no view register. -/
theorem finishPure_next {s t : State} {r : Result Value} (h : finishPure s r = .next t) :
    s.fault = none ∧ ((∃ v, r = .ok v ∧ t = s.answer v) ∨ (∃ e, r = .err e ∧ t = s.raise e)) := by
  obtain ⟨hf, h⟩ := finish_next h
  refine ⟨hf, ?_⟩
  cases r with
  | ok v =>
    obtain ⟨v', u, hr, rfl⟩ | ⟨e, hr, -⟩ := h
    · cases hr; exact .inl ⟨_, rfl, rfl⟩
    · cases hr
  | err e =>
    obtain ⟨v', u, hr, -⟩ | ⟨e', hr, rfl⟩ := h
    · cases hr
    · cases hr; exact .inr ⟨_, rfl, rfl⟩

@[simp] theorem mapOk_ok {α β : Type} (f : α → β) (v : α) : mapOk f (.ok v) = .ok (f v) := rfl

@[simp] theorem mapOk_err {α β : Type} (f : α → β) (e : DecodeError) : mapOk f (.err e) = .err e := rfl

/-- Presenting a word answers a next state only in an unmarked state: the outputs of the decoder where the table has the
opcode, the error where it has not. -/
theorem presentWord_next {w : Word} {s t : State} (h : presentWord w s = .next t) :
    s.fault = none ∧
      ((∃ m, opcodeEntry s.params.opcodeTable (opcodeField w) = some m ∧
          t = s.answer (.decoder (decoderOutputs s.params.opcodeTable w))) ∨
        (opcodeEntry s.params.opcodeTable (opcodeField w) = none ∧ t = s.raise .unrecognizedInstruction)) := by
  obtain ⟨hf, h⟩ := finishPure_next h
  refine ⟨hf, ?_⟩
  cases he : opcodeEntry s.params.opcodeTable (opcodeField w) with
  | some m =>
    have hl : opcodeLookup s.params.opcodeTable w = .ok m := by simp [opcodeLookup, he]
    obtain ⟨v, hr, rfl⟩ | ⟨e, hr, -⟩ := h <;> rw [hl] at hr <;> cases hr
    exact .inl ⟨m, rfl, rfl⟩
  | none =>
    have hl : opcodeLookup s.params.opcodeTable w = .err .unrecognizedInstruction := by simp [opcodeLookup, he]
    obtain ⟨v, hr, -⟩ | ⟨e, hr, rfl⟩ := h <;> rw [hl] at hr <;> cases hr
    exact .inr ⟨rfl, rfl⟩

end Sys2Proof.Machine
end

