-- ==== Sys2Proof/Laws/Decoders.lean ====
section
/-! SUPPORT. What the decodes return, for proofs to cite instead of unfolding them. -/

namespace Sys2Proof.Machine

/-- The pattern code, in full (R131). -/
theorem patternDecode_err_iff (code : BitVec 4) (e : DecodeError) :
    patternDecode code = .err e ↔ e = .invalidFieldValue ∧ code ≠ 0 ∧ code ≠ 6 := by
  unfold patternDecode
  by_cases h0 : code = 0
  · simp [h0]
  · by_cases h6 : code = 6
    · simp [h6]
    · rw [if_neg h0, if_neg h6]
      exact ⟨fun h => by cases h; exact ⟨rfl, h0, h6⟩, fun h => by rw [h.1]⟩

/-- The mode code, in full (R154). -/
theorem modeDecode_err_iff (code : BitVec 2) (e : DecodeError) :
    modeDecode code = .err e ↔ e = .invalidFieldValue ∧ code = 0b11 := by
  cases e <;> revert code <;> decide

/-- The Config decode fails on the pattern code alone (R130). -/
theorem configDecode_err_iff (raw : Word) (e : DecodeError) :
    configDecode raw = .err e ↔
      e = .invalidFieldValue ∧ configPatternField raw ≠ 0 ∧ configPatternField raw ≠ 6 := by
  rw [← patternDecode_err_iff, configDecode]
  cases patternDecode (configPatternField raw) <;> simp

/-- The Config view, where there is one (R130). -/
theorem configDecode_ok {raw : Word} {p : DataTransferPattern}
    (h : patternDecode (configPatternField raw) = .ok p) :
    configDecode raw = .ok ⟨p, endiannessDecode raw, configCuFlag raw, configKseg0Flag raw⟩ := by
  rw [configDecode, h, mapOk_ok]

/-- The Status decode fails on the mode code alone (R150). -/
theorem statusDecode_err_iff (l : StatusLayout) (raw : Word) (e : DecodeError) :
    statusDecode l raw = .err e ↔ e = .invalidFieldValue ∧ statusModeField raw = 0b11 := by
  rw [← modeDecode_err_iff, statusDecode]
  cases modeDecode (statusModeField raw) <;> simp

/-- The Status view of a word whose mode code is legal (R150). -/
theorem statusDecode_of_mode {l : StatusLayout} {raw : Word} {m : Mode} (h : modeDecode (statusModeField raw) = .ok m) :
    statusDecode l raw = .ok
      { coprocessorUsability := coprocessorUsabilityFlags l raw
        lowPower := flagAt raw l.lowPower
        additionalFpRegs := flagAt raw l.additionalFpRegs
        reverseEndian := flagAt raw l.reverseEndian
        diagnosticStatus := diagnosticStatusDecode l raw
        interruptMask := interruptMaskDecode l raw
        kernelMode64BitAddressing := flagAt raw l.kernelMode64BitAddressing
        supervisorMode64BitAddressing := flagAt raw l.supervisorMode64BitAddressing
        userMode64BitAddressing := flagAt raw l.userMode64BitAddressing
        mode := m
        errorLevel := flagAt raw l.errorLevel
        exceptionLevel := flagAt raw l.exceptionLevel
        interruptsEnabled := interruptsEnabledFlag raw } := by
  rw [statusDecode, h, mapOk_ok]

/-- The Status view, where there is one, is made of the layout's bits and of its mode (R150). -/
theorem statusDecode_ok_inv {l : StatusLayout} {raw : Word} {v : StatusView} (h : statusDecode l raw = .ok v) :
    ∃ m, modeDecode (statusModeField raw) = .ok m ∧ v.mode = m ∧
      v.diagnosticStatus = diagnosticStatusDecode l raw ∧ v.interruptMask = interruptMaskDecode l raw ∧
      v.coprocessorUsability = coprocessorUsabilityFlags l raw ∧ v.interruptsEnabled = interruptsEnabledFlag raw := by
  rw [statusDecode] at h
  cases hm : modeDecode (statusModeField raw) with
  | ok m => rw [hm, mapOk_ok] at h; cases h; exact ⟨m, rfl, rfl, rfl, rfl, rfl, rfl⟩
  | err e => rw [hm, mapOk_err] at h; cases h

end Sys2Proof.Machine
end

