-- ==== Sys2Proof/Laws/Exec.lean ====
section
/-! SUPPORT. What an operation can do, once, for proofs to cite instead of unfolding `exec`. -/

namespace Sys2Proof.Machine

/-- What the operation returns to its caller, by its selector and its word. -/
def invocationResult (p : Params) (inv : Invocation) : Result Value :=
  match inv.operation with
  | .fetched =>
    mapOk (fun _ => .decoder (decoderOutputs p.opcodeTable inv.word)) (opcodeLookup p.opcodeTable inv.word)
  | .opcode => mapOk .mnemonic (opcodeLookup p.opcodeTable inv.word)
  | .rs => .ok (.registerIndex (rsField inv.word))
  | .rt => .ok (.registerIndex (rtField inv.word))
  | .rd => .ok (.registerIndex (rdField inv.word))
  | .imm => .ok (.immediate (immField inv.word))
  | .offset => .ok (.immediate (offsetField inv.word))
  | .immSignExtended => .ok (.signExtended (immSignExtendedField inv.word))
  | .offsetSignExtended => .ok (.signExtended (offsetSignExtendedField inv.word))
  | .configDecode => mapOk .config (configDecode inv.word)
  | .configLoad => mapOk (fun _ => .done) (configDecode inv.word)
  | .powerOnReset => .ok .done
  | .write => .err .notImplemented
  | .statusDecode => mapOk .status (statusDecode p.statusLayout inv.word)
  | .diagnosticStatusDecode => .ok (.diagnosticStatus (diagnosticStatusDecode p.statusLayout inv.word))
  | .interruptMaskDecode => .ok (.interruptMask (interruptMaskDecode p.statusLayout inv.word))
  | .statusLoad => mapOk (fun _ => .done) (statusDecode p.statusLayout inv.word)
  | .modeDecode => mapOk .mode (modeDecode (statusModeField inv.word))

/-- The state with the operation's writes to the view registers, where it succeeds. -/
def invocationWrites (inv : Invocation) (s : State) : State :=
  match inv.operation with
  | .configLoad =>
    match configDecode inv.word with
    | .ok v => s.writeCfg v
    | .err _ => s
  | .powerOnReset => s.writeCfg (powerOnResetView s.cfg)
  | .statusLoad =>
    match statusDecode s.params.statusLayout inv.word with
    | .ok v => s.writeSt v
    | .err _ => s
  | _ => s

/-- Every operation ends in the one shared operation `finish`, with its result and its writes. -/
theorem exec_eq_finish (i : Instr) (s : State) :
    exec i s = finish s (mapOk (fun v => (v, invocationWrites (encode i) s)) (invocationResult s.params (encode i))) := by
  cases i with
  | configLoad raw =>
    simp only [exec, execConfigLoad, encode, invocationResult, invocationWrites]
    cases configDecode raw <;> rfl
  | statusLoad raw =>
    simp only [exec, execStatusLoad, encode, invocationResult, invocationWrites]
    cases statusDecode s.params.statusLayout raw <;> rfl
  | _ => rfl

/-- A halted owner issues no operation (R185, R207). -/
theorem exec_halted {i : Instr} {s : State} {e : DecodeError} (h : s.fault = some e) :
    exec i s = .fault (.ownerHalted e) := by
  rw [exec_eq_finish]; exact unlessHalted_halted h _

/-- An operation that returns a value. -/
theorem exec_ok {i : Instr} {s : State} {v : Value} (h : s.fault = none) (hr : invocationResult s.params (encode i) = .ok v) :
    exec i s = .next ((invocationWrites (encode i) s).answer v) := by
  rw [exec_eq_finish, hr]; exact finish_ok h v _

/-- An operation that raises an error. -/
theorem exec_err {i : Instr} {s : State} {e : DecodeError} (h : s.fault = none)
    (hr : invocationResult s.params (encode i) = .err e) : exec i s = .next (s.raise e) := by
  rw [exec_eq_finish, hr]; exact finish_err h e

/-- In an unmarked state every operation answers a next state. -/
theorem exec_total (i : Instr) {s : State} (h : s.fault = none) : ∃ t, exec i s = .next t := by
  cases hr : invocationResult s.params (encode i) with
  | ok v => exact ⟨_, exec_ok h hr⟩
  | err e => exact ⟨_, exec_err h hr⟩

/-- The states an operation can lead to. -/
inductive Effect (i : Instr) (s t : State) : Prop where
  | raised (e : DecodeError) (ht : t = s.raise e)
  | answered (v : Value) (hc : writesConfig i = false) (hs : writesStatus s.params.statusLayout i = false)
      (ht : t = s.answer v)
  | configLoaded (raw : Word) (v : ConfigView) (hi : i = .configLoad raw) (hd : configDecode raw = .ok v)
      (ht : t = (s.writeCfg v).answer .done)
  | configReset (hi : i = .powerOnReset) (ht : t = (s.writeCfg (powerOnResetView s.cfg)).answer .done)
  | statusLoaded (raw : Word) (v : StatusView) (hi : i = .statusLoad raw)
      (hd : statusDecode s.params.statusLayout raw = .ok v) (ht : t = (s.writeSt v).answer .done)

/-- Inversion of `exec`: a next state comes from an unmarked state, by one of the five effects. -/
theorem exec_next {i : Instr} {s t : State} (h : exec i s = .next t) : s.fault = none ∧ Effect i s t := by
  have hf : s.fault = none := by
    rw [exec_eq_finish] at h
    exact (finish_next h).1
  refine ⟨hf, ?_⟩
  cases hr : invocationResult s.params (encode i) with
  | err e =>
    rw [exec_err hf hr] at h
    cases h
    exact .raised e rfl
  | ok v =>
    rw [exec_ok hf hr] at h
    cases h
    cases i with
    | configLoad raw =>
      cases hd : configDecode raw <;> simp only [encode, invocationResult, hd, mapOk] at hr <;> cases hr
      exact .configLoaded raw _ rfl hd (by simp only [encode, invocationWrites, hd])
    | powerOnReset =>
      cases hr
      exact .configReset rfl rfl
    | statusLoad raw =>
      cases hd : statusDecode s.params.statusLayout raw <;> simp only [encode, invocationResult, hd, mapOk] at hr <;> cases hr
      exact .statusLoaded raw _ rfl hd (by simp only [encode, invocationWrites, hd])
    | _ => exact .answered v rfl rfl rfl

/-- What a step is: nothing pending and nothing changed, a row issued, or a fetched word presented. -/
theorem step_next {s t : State} (h : step s = .next t) :
    s.fault = none ∧
      ((s.pending = [] ∧ t = s) ∨
        ∃ inv rest, s.pending = inv :: rest ∧
          ((∃ i, decode inv = .ok i ∧ exec i { s with pending := rest } = .next t) ∨
            presentWord inv.word { s with pending := rest } = .next t)) := by
  obtain ⟨hf, h⟩ := unlessHalted_next h
  refine ⟨hf, ?_⟩
  cases hp : s.pending with
  | nil => simp only [State.takePending, hp] at h; cases h; exact .inl ⟨rfl, rfl⟩
  | cons inv rest =>
    simp only [State.takePending, hp, issue] at h
    refine .inr ⟨inv, rest, rfl, ?_⟩
    cases hd : decode inv with
    | ok i => rw [hd] at h; exact .inl ⟨i, rfl, h⟩
    | error e => rw [hd] at h; exact .inr h

/-- A run that answers a next state went through one. -/
theorem runAll_append {pre post : List Instr} {s t : State} (h : runAll (pre ++ post) s = .next t) :
    ∃ u, runAll pre s = .next u ∧ runAll post u = .next t := by
  induction pre generalizing s with
  | nil => exact ⟨s, rfl, h⟩
  | cons i rest ih =>
    simp only [List.cons_append, runAll] at h ⊢
    cases he : exec i s with
    | next u => rw [he] at h; exact ih h
    | fault f => rw [he] at h; cases h
    | refused r => rw [he] at h; cases h

end Sys2Proof.Machine
end

