-- ==== Sys2Proof/Laws/Fields.lean ====
section
/-! SUPPORT. The fields of an assembled word, and a word from its fields (40_instruction_decoder.md R112). -/

namespace Sys2Proof

open Sys2Proof.Machine

theorem getLsbD_assemble (op : BitVec 6) (rs rt : BitVec 5) (imm : BitVec 16) (k : Nat) :
    (assemble op rs rt imm).getLsbD k =
      if k < 16 then imm.getLsbD k
      else if k < 21 then rt.getLsbD (k - 16)
      else if k < 26 then rs.getLsbD (k - 21)
      else op.getLsbD (k - 26) := by
  simp only [assemble, BitVec.getLsbD_append]
  by_cases h1 : k < 16
  · simp [h1]
  by_cases h2 : k < 21
  · simp [h1, h2, show k - 16 < 5 by omega]
  by_cases h3 : k < 26
  · simp [h1, h2, h3, show ¬ k - 16 < 5 by omega, show k - 21 < 5 by omega, show k - 16 - 5 = k - 21 by omega]
  · simp [h1, h2, h3, show ¬ k - 16 < 5 by omega, show ¬ k - 16 - 5 < 5 by omega,
      show k - 16 - 5 - 5 = k - 26 by omega]

@[simp] theorem opcodeField_assemble (op : BitVec 6) (rs rt : BitVec 5) (imm : BitVec 16) :
    opcodeField (assemble op rs rt imm) = op := by
  refine BitVec.eq_of_getLsbD_eq fun i hi => ?_
  simp [opcodeField, getLsbD_assemble, hi, show ¬ 26 + i < 16 by omega, show ¬ 26 + i < 21 by omega]

@[simp] theorem rsField_assemble (op : BitVec 6) (rs rt : BitVec 5) (imm : BitVec 16) :
    rsField (assemble op rs rt imm) = rs := by
  refine BitVec.eq_of_getLsbD_eq fun i hi => ?_
  simp [rsField, getLsbD_assemble, hi, show ¬ 21 + i < 16 by omega, show 21 + i < 26 by omega]

@[simp] theorem rtField_assemble (op : BitVec 6) (rs rt : BitVec 5) (imm : BitVec 16) :
    rtField (assemble op rs rt imm) = rt := by
  refine BitVec.eq_of_getLsbD_eq fun i hi => ?_
  simp [rtField, getLsbD_assemble, hi, show 16 + i < 21 by omega]

@[simp] theorem immField_assemble (op : BitVec 6) (rs rt : BitVec 5) (imm : BitVec 16) :
    immField (assemble op rs rt imm) = imm := by
  refine BitVec.eq_of_getLsbD_eq fun i hi => ?_
  simp [immField, getLsbD_assemble, hi]

/-- A word is what its fields assemble to: the four fields cover it (R81). -/
theorem assemble_fields (w : Word) : assemble (opcodeField w) (rsField w) (rtField w) (immField w) = w := by
  refine BitVec.eq_of_getLsbD_eq fun i hi => ?_
  rw [getLsbD_assemble]
  simp only [opcodeField, rsField, rtField, immField, BitVec.getLsbD_extractLsb']
  split
  · simp [*]
  split
  · simp [show i - 16 < 5 by omega, show 16 + (i - 16) = i by omega]
  split
  · simp [show i - 21 < 5 by omega, show 21 + (i - 21) = i by omega]
  · simp [show i - 26 < 6 by omega, show 26 + (i - 26) = i by omega]

/-- The law of R112: `rd` is what was placed where the immediate's bits 15:11 agree with it. -/
theorem rdField_assemble (op : BitVec 6) (rs rt : BitVec 5) (imm : BitVec 16) :
    rdField (assemble op rs rt imm) = imm.extractLsb' 11 5 := by
  refine BitVec.eq_of_getLsbD_eq fun i hi => ?_
  simp [rdField, getLsbD_assemble, hi, show 11 + i < 16 by omega]

end Sys2Proof
end

