-- ==== Sys2Proof/Laws/PerInstr.lean ====
section
/-! SUPPORT. A law of every instruction as syntax, one lemma per constructor: where its operands stand in its encoding. -/

namespace Sys2Proof.Laws.EncodedFields

open Sys2Proof Sys2Proof.Machine

/-- A primary-opcode row is a fetched word of its opcode (R85) that holds its operands at bits 25:21, 20:16 and 15:0
(R81). -/
def Primary (op : BitVec 6) (rs rt : BitVec 5) (imm : BitVec 16) (inv : Invocation) : Prop :=
  inv.operation = .fetched ∧ opcodeField inv.word = op ∧ rsField inv.word = rs ∧ rtField inv.word = rt ∧
    immField inv.word = imm

theorem primary_assemble (op : BitVec 6) (rs rt : BitVec 5) (imm : BitVec 16) :
    Primary op rs rt imm ⟨.fetched, assemble op rs rt imm⟩ := by
  simp [Primary]

/-- The encoding of an instruction carries its selector and its operands (R81, R85, R89). -/
def Statement (i : Instr) : Prop :=
  match i with
  | .opcode w => encode i = ⟨.opcode, w⟩
  | .rs w => encode i = ⟨.rs, w⟩
  | .rt w => encode i = ⟨.rt, w⟩
  | .rd w => encode i = ⟨.rd, w⟩
  | .imm w => encode i = ⟨.imm, w⟩
  | .offset w => encode i = ⟨.offset, w⟩
  | .immSignExtended w => encode i = ⟨.immSignExtended, w⟩
  | .offsetSignExtended w => encode i = ⟨.offsetSignExtended, w⟩
  | .configDecode w => encode i = ⟨.configDecode, w⟩
  | .configLoad w => encode i = ⟨.configLoad, w⟩
  | .powerOnReset => encode i = ⟨.powerOnReset, 0⟩
  | .write w => encode i = ⟨.write, w⟩
  | .statusDecode w => encode i = ⟨.statusDecode, w⟩
  | .diagnosticStatusDecode w => encode i = ⟨.diagnosticStatusDecode, w⟩
  | .interruptMaskDecode w => encode i = ⟨.interruptMaskDecode, w⟩
  | .statusLoad w => encode i = ⟨.statusLoad, w⟩
  | .modeDecode w => encode i = ⟨.modeDecode, w⟩
  | .special rs rt imm => Primary 0 rs rt imm (encode i)
  | .regimm rs rt imm => Primary 1 rs rt imm (encode i)
  | .j rs rt imm => Primary 2 rs rt imm (encode i)
  | .jal rs rt imm => Primary 3 rs rt imm (encode i)
  | .beq rs rt imm => Primary 4 rs rt imm (encode i)
  | .bne rs rt imm => Primary 5 rs rt imm (encode i)
  | .blez rs rt imm => Primary 6 rs rt imm (encode i)
  | .bgtz rs rt imm => Primary 7 rs rt imm (encode i)
  | .addi rs rt imm => Primary 8 rs rt imm (encode i)
  | .addiu rs rt imm => Primary 9 rs rt imm (encode i)
  | .slti rs rt imm => Primary 10 rs rt imm (encode i)
  | .sltiu rs rt imm => Primary 11 rs rt imm (encode i)
  | .andi rs rt imm => Primary 12 rs rt imm (encode i)
  | .ori rs rt imm => Primary 13 rs rt imm (encode i)
  | .xori rs rt imm => Primary 14 rs rt imm (encode i)
  | .lui rs rt imm => Primary 15 rs rt imm (encode i)
  | .cop0 rs rt imm => Primary 16 rs rt imm (encode i)
  | .cop1 rs rt imm => Primary 17 rs rt imm (encode i)
  | .cop2 rs rt imm => Primary 18 rs rt imm (encode i)
  | .beql rs rt imm => Primary 20 rs rt imm (encode i)
  | .bnel rs rt imm => Primary 21 rs rt imm (encode i)
  | .blezl rs rt imm => Primary 22 rs rt imm (encode i)
  | .bgtzl rs rt imm => Primary 23 rs rt imm (encode i)
  | .daddi rs rt imm => Primary 24 rs rt imm (encode i)
  | .daddiu rs rt imm => Primary 25 rs rt imm (encode i)
  | .ldl rs rt imm => Primary 26 rs rt imm (encode i)
  | .ldr rs rt imm => Primary 27 rs rt imm (encode i)
  | .lb rs rt imm => Primary 32 rs rt imm (encode i)
  | .lh rs rt imm => Primary 33 rs rt imm (encode i)
  | .lwl rs rt imm => Primary 34 rs rt imm (encode i)
  | .lw rs rt imm => Primary 35 rs rt imm (encode i)
  | .lbu rs rt imm => Primary 36 rs rt imm (encode i)
  | .lhu rs rt imm => Primary 37 rs rt imm (encode i)
  | .lwr rs rt imm => Primary 38 rs rt imm (encode i)
  | .lwu rs rt imm => Primary 39 rs rt imm (encode i)
  | .sb rs rt imm => Primary 40 rs rt imm (encode i)
  | .sh rs rt imm => Primary 41 rs rt imm (encode i)
  | .swl rs rt imm => Primary 42 rs rt imm (encode i)
  | .sw rs rt imm => Primary 43 rs rt imm (encode i)
  | .sdl rs rt imm => Primary 44 rs rt imm (encode i)
  | .sdr rs rt imm => Primary 45 rs rt imm (encode i)
  | .swr rs rt imm => Primary 46 rs rt imm (encode i)
  | .cache rs rt imm => Primary 47 rs rt imm (encode i)
  | .ll rs rt imm => Primary 48 rs rt imm (encode i)
  | .lwc1 rs rt imm => Primary 49 rs rt imm (encode i)
  | .lwc2 rs rt imm => Primary 50 rs rt imm (encode i)
  | .lld rs rt imm => Primary 52 rs rt imm (encode i)
  | .ldc1 rs rt imm => Primary 53 rs rt imm (encode i)
  | .ldc2 rs rt imm => Primary 54 rs rt imm (encode i)
  | .ld rs rt imm => Primary 55 rs rt imm (encode i)
  | .sc rs rt imm => Primary 56 rs rt imm (encode i)
  | .swc1 rs rt imm => Primary 57 rs rt imm (encode i)
  | .swc2 rs rt imm => Primary 58 rs rt imm (encode i)
  | .scd rs rt imm => Primary 60 rs rt imm (encode i)
  | .sdc1 rs rt imm => Primary 61 rs rt imm (encode i)
  | .sdc2 rs rt imm => Primary 62 rs rt imm (encode i)
  | .sd rs rt imm => Primary 63 rs rt imm (encode i)

theorem opcode (w : Word) : Statement (.opcode w) := rfl
theorem rs (w : Word) : Statement (.rs w) := rfl
theorem rt (w : Word) : Statement (.rt w) := rfl
theorem rd (w : Word) : Statement (.rd w) := rfl
theorem imm (w : Word) : Statement (.imm w) := rfl
theorem offset (w : Word) : Statement (.offset w) := rfl
theorem immSignExtended (w : Word) : Statement (.immSignExtended w) := rfl
theorem offsetSignExtended (w : Word) : Statement (.offsetSignExtended w) := rfl
theorem configDecode (w : Word) : Statement (.configDecode w) := rfl
theorem configLoad (w : Word) : Statement (.configLoad w) := rfl
theorem powerOnReset : Statement .powerOnReset := rfl
theorem write (w : Word) : Statement (.write w) := rfl
theorem statusDecode (w : Word) : Statement (.statusDecode w) := rfl
theorem diagnosticStatusDecode (w : Word) : Statement (.diagnosticStatusDecode w) := rfl
theorem interruptMaskDecode (w : Word) : Statement (.interruptMaskDecode w) := rfl
theorem statusLoad (w : Word) : Statement (.statusLoad w) := rfl
theorem modeDecode (w : Word) : Statement (.modeDecode w) := rfl
theorem special (rs rt : BitVec 5) (imm : BitVec 16) : Statement (.special rs rt imm) :=
  primary_assemble 0 rs rt imm
theorem regimm (rs rt : BitVec 5) (imm : BitVec 16) : Statement (.regimm rs rt imm) :=
  primary_assemble 1 rs rt imm
theorem j (rs rt : BitVec 5) (imm : BitVec 16) : Statement (.j rs rt imm) :=
  primary_assemble 2 rs rt imm
theorem jal (rs rt : BitVec 5) (imm : BitVec 16) : Statement (.jal rs rt imm) :=
  primary_assemble 3 rs rt imm
theorem beq (rs rt : BitVec 5) (imm : BitVec 16) : Statement (.beq rs rt imm) :=
  primary_assemble 4 rs rt imm
theorem bne (rs rt : BitVec 5) (imm : BitVec 16) : Statement (.bne rs rt imm) :=
  primary_assemble 5 rs rt imm
theorem blez (rs rt : BitVec 5) (imm : BitVec 16) : Statement (.blez rs rt imm) :=
  primary_assemble 6 rs rt imm
theorem bgtz (rs rt : BitVec 5) (imm : BitVec 16) : Statement (.bgtz rs rt imm) :=
  primary_assemble 7 rs rt imm
theorem addi (rs rt : BitVec 5) (imm : BitVec 16) : Statement (.addi rs rt imm) :=
  primary_assemble 8 rs rt imm
theorem addiu (rs rt : BitVec 5) (imm : BitVec 16) : Statement (.addiu rs rt imm) :=
  primary_assemble 9 rs rt imm
theorem slti (rs rt : BitVec 5) (imm : BitVec 16) : Statement (.slti rs rt imm) :=
  primary_assemble 10 rs rt imm
theorem sltiu (rs rt : BitVec 5) (imm : BitVec 16) : Statement (.sltiu rs rt imm) :=
  primary_assemble 11 rs rt imm
theorem andi (rs rt : BitVec 5) (imm : BitVec 16) : Statement (.andi rs rt imm) :=
  primary_assemble 12 rs rt imm
theorem ori (rs rt : BitVec 5) (imm : BitVec 16) : Statement (.ori rs rt imm) :=
  primary_assemble 13 rs rt imm
theorem xori (rs rt : BitVec 5) (imm : BitVec 16) : Statement (.xori rs rt imm) :=
  primary_assemble 14 rs rt imm
theorem lui (rs rt : BitVec 5) (imm : BitVec 16) : Statement (.lui rs rt imm) :=
  primary_assemble 15 rs rt imm
theorem cop0 (rs rt : BitVec 5) (imm : BitVec 16) : Statement (.cop0 rs rt imm) :=
  primary_assemble 16 rs rt imm
theorem cop1 (rs rt : BitVec 5) (imm : BitVec 16) : Statement (.cop1 rs rt imm) :=
  primary_assemble 17 rs rt imm
theorem cop2 (rs rt : BitVec 5) (imm : BitVec 16) : Statement (.cop2 rs rt imm) :=
  primary_assemble 18 rs rt imm
theorem beql (rs rt : BitVec 5) (imm : BitVec 16) : Statement (.beql rs rt imm) :=
  primary_assemble 20 rs rt imm
theorem bnel (rs rt : BitVec 5) (imm : BitVec 16) : Statement (.bnel rs rt imm) :=
  primary_assemble 21 rs rt imm
theorem blezl (rs rt : BitVec 5) (imm : BitVec 16) : Statement (.blezl rs rt imm) :=
  primary_assemble 22 rs rt imm
theorem bgtzl (rs rt : BitVec 5) (imm : BitVec 16) : Statement (.bgtzl rs rt imm) :=
  primary_assemble 23 rs rt imm
theorem daddi (rs rt : BitVec 5) (imm : BitVec 16) : Statement (.daddi rs rt imm) :=
  primary_assemble 24 rs rt imm
theorem daddiu (rs rt : BitVec 5) (imm : BitVec 16) : Statement (.daddiu rs rt imm) :=
  primary_assemble 25 rs rt imm
theorem ldl (rs rt : BitVec 5) (imm : BitVec 16) : Statement (.ldl rs rt imm) :=
  primary_assemble 26 rs rt imm
theorem ldr (rs rt : BitVec 5) (imm : BitVec 16) : Statement (.ldr rs rt imm) :=
  primary_assemble 27 rs rt imm
theorem lb (rs rt : BitVec 5) (imm : BitVec 16) : Statement (.lb rs rt imm) :=
  primary_assemble 32 rs rt imm
theorem lh (rs rt : BitVec 5) (imm : BitVec 16) : Statement (.lh rs rt imm) :=
  primary_assemble 33 rs rt imm
theorem lwl (rs rt : BitVec 5) (imm : BitVec 16) : Statement (.lwl rs rt imm) :=
  primary_assemble 34 rs rt imm
theorem lw (rs rt : BitVec 5) (imm : BitVec 16) : Statement (.lw rs rt imm) :=
  primary_assemble 35 rs rt imm
theorem lbu (rs rt : BitVec 5) (imm : BitVec 16) : Statement (.lbu rs rt imm) :=
  primary_assemble 36 rs rt imm
theorem lhu (rs rt : BitVec 5) (imm : BitVec 16) : Statement (.lhu rs rt imm) :=
  primary_assemble 37 rs rt imm
theorem lwr (rs rt : BitVec 5) (imm : BitVec 16) : Statement (.lwr rs rt imm) :=
  primary_assemble 38 rs rt imm
theorem lwu (rs rt : BitVec 5) (imm : BitVec 16) : Statement (.lwu rs rt imm) :=
  primary_assemble 39 rs rt imm
theorem sb (rs rt : BitVec 5) (imm : BitVec 16) : Statement (.sb rs rt imm) :=
  primary_assemble 40 rs rt imm
theorem sh (rs rt : BitVec 5) (imm : BitVec 16) : Statement (.sh rs rt imm) :=
  primary_assemble 41 rs rt imm
theorem swl (rs rt : BitVec 5) (imm : BitVec 16) : Statement (.swl rs rt imm) :=
  primary_assemble 42 rs rt imm
theorem sw (rs rt : BitVec 5) (imm : BitVec 16) : Statement (.sw rs rt imm) :=
  primary_assemble 43 rs rt imm
theorem sdl (rs rt : BitVec 5) (imm : BitVec 16) : Statement (.sdl rs rt imm) :=
  primary_assemble 44 rs rt imm
theorem sdr (rs rt : BitVec 5) (imm : BitVec 16) : Statement (.sdr rs rt imm) :=
  primary_assemble 45 rs rt imm
theorem swr (rs rt : BitVec 5) (imm : BitVec 16) : Statement (.swr rs rt imm) :=
  primary_assemble 46 rs rt imm
theorem cache (rs rt : BitVec 5) (imm : BitVec 16) : Statement (.cache rs rt imm) :=
  primary_assemble 47 rs rt imm
theorem ll (rs rt : BitVec 5) (imm : BitVec 16) : Statement (.ll rs rt imm) :=
  primary_assemble 48 rs rt imm
theorem lwc1 (rs rt : BitVec 5) (imm : BitVec 16) : Statement (.lwc1 rs rt imm) :=
  primary_assemble 49 rs rt imm
theorem lwc2 (rs rt : BitVec 5) (imm : BitVec 16) : Statement (.lwc2 rs rt imm) :=
  primary_assemble 50 rs rt imm
theorem lld (rs rt : BitVec 5) (imm : BitVec 16) : Statement (.lld rs rt imm) :=
  primary_assemble 52 rs rt imm
theorem ldc1 (rs rt : BitVec 5) (imm : BitVec 16) : Statement (.ldc1 rs rt imm) :=
  primary_assemble 53 rs rt imm
theorem ldc2 (rs rt : BitVec 5) (imm : BitVec 16) : Statement (.ldc2 rs rt imm) :=
  primary_assemble 54 rs rt imm
theorem ld (rs rt : BitVec 5) (imm : BitVec 16) : Statement (.ld rs rt imm) :=
  primary_assemble 55 rs rt imm
theorem sc (rs rt : BitVec 5) (imm : BitVec 16) : Statement (.sc rs rt imm) :=
  primary_assemble 56 rs rt imm
theorem swc1 (rs rt : BitVec 5) (imm : BitVec 16) : Statement (.swc1 rs rt imm) :=
  primary_assemble 57 rs rt imm
theorem swc2 (rs rt : BitVec 5) (imm : BitVec 16) : Statement (.swc2 rs rt imm) :=
  primary_assemble 58 rs rt imm
theorem scd (rs rt : BitVec 5) (imm : BitVec 16) : Statement (.scd rs rt imm) :=
  primary_assemble 60 rs rt imm
theorem sdc1 (rs rt : BitVec 5) (imm : BitVec 16) : Statement (.sdc1 rs rt imm) :=
  primary_assemble 61 rs rt imm
theorem sdc2 (rs rt : BitVec 5) (imm : BitVec 16) : Statement (.sdc2 rs rt imm) :=
  primary_assemble 62 rs rt imm
theorem sd (rs rt : BitVec 5) (imm : BitVec 16) : Statement (.sd rs rt imm) :=
  primary_assemble 63 rs rt imm

end Sys2Proof.Laws.EncodedFields
end

