-- ==== Sys2Proof/Laws/Run.lean ====
section
/-! SUPPORT. Runs of the host's machine, one step at a time. -/

namespace Sys2Proof.Machine

theorem hostRun_next (M : Host.Core) {k : Nat} {s s' : M.State} (h : M.step s = .next s') :
    M.run (k + 1) s = M.run k s' := by
  rw [Host.Core.run, h]

theorem hostRun_fault (M : Host.Core) {k : Nat} {s : M.State} {f : M.Fault} (h : M.step s = .fault f) :
    M.run (k + 1) s = .fault f := by
  rw [Host.Core.run, h]

theorem hostRun_refused (M : Host.Core) {k : Nat} {s : M.State} {r : M.Refusal} (h : M.step s = .refused r) :
    M.run (k + 1) s = .refused r := by
  rw [Host.Core.run, h]

/-- A run of the machine whose first step goes on. -/
theorem run_next {k : Nat} {s s' : State} (h : step s = .next s') : core.run (k + 1) s = core.run k s' :=
  hostRun_next core h

/-- A run of the machine whose first step stops. -/
theorem run_fault {k : Nat} {s : State} {f : Fault} (h : step s = .fault f) : core.run (k + 1) s = .fault f :=
  hostRun_fault core h

/-- A run that ends in a next state took a first step. -/
theorem run_inv {k : Nat} {s t : State} (h : core.run (k + 1) s = .next t) :
    ∃ u, step s = .next u ∧ core.run k u = .next t := by
  cases hs : step s with
  | next u => exact ⟨u, rfl, (run_next hs).symm.trans h⟩
  | fault f => exact absurd ((run_fault hs).symm.trans h) (by simp)
  | refused r => exact absurd ((hostRun_refused core hs).symm.trans h) (by simp)

/-- The first operation of a run. -/
theorem runAll_cons {i : Instr} {ops : List Instr} {s t : State} (h : runAll (i :: ops) s = .next t) :
    ∃ u, exec i s = .next u ∧ runAll ops u = .next t := by
  unfold runAll at h
  cases he : exec i s with
  | next u => rw [he] at h; exact ⟨u, rfl, h⟩
  | fault f => rw [he] at h; cases h
  | refused r => rw [he] at h; cases h

end Sys2Proof.Machine
end

