-- ==== Sys2Proof/Tests/Slice0.lean ====
section
/-! SUPPORT. The model's own tests: ill-formed terms refused, words written out from the spec, one operation at a time
against the vectors of 95_test_vectors.md, and a witness for the hypotheses of each statement. -/

namespace Sys2Proof.Tests

open Sys2Proof Sys2Proof.Machine

/-- A state after CP0 initialization, for the draws DxxDxx and Little. -/
def base : State := State.init defaultParams .dxxDxx .little

/-- The result an operation returns, `none` where the machine stops. -/
def resultOf (o : Out) : Option (Result Value) :=
  match o with
  | .next t => t.result
  | .fault _ => none
  | .refused _ => none

/-- The Config view, the Status view and the mark after an operation. -/
def viewsOf (o : Out) : Option (ConfigView × StatusView × Option DecodeError) :=
  match o with
  | .next t => some (t.cfg, t.st, t.fault)
  | .fault _ => none
  | .refused _ => none

/-! ## Well-formedness: one ill-formed term for each check -/

theorem test_wf_fetched_unlisted_opcode : Invocation.wf ⟨.fetched, 0x4C000000⟩ = false := by decide

theorem test_wf_power_on_reset_with_a_word : Invocation.wf ⟨.powerOnReset, 1⟩ = false := by decide

theorem test_wf_encoded : Invocation.wf (encode (.addiu 29 29 0xFFF0)) = true := by decide

theorem test_layout_on_a_fixed_bit :
    StatusLayout.avoidsFixedBits { statusLayoutVr4300 with lowPower := 31 } = false := by decide

theorem test_layout_with_a_shared_bit :
    StatusLayout.distinctBits { statusLayoutVr4300 with lowPower := 26 } = false := by decide

theorem test_default_layout_wf : statusLayoutVr4300.wf = true := by decide

/-! ## Decoding: words written out from R81 and R85, with rs = 4, rt = 5 and imm = 0x1020 (the fields of DI13) -/

theorem test_decode_special_to_bgtz :
    [0x00851020, 0x04851020, 0x08851020, 0x0C851020, 0x10851020, 0x14851020, 0x18851020, 0x1C851020].map (decodeTableWord 32) =
      [some (.special 4 5 0x1020), some (.regimm 4 5 0x1020), some (.j 4 5 0x1020),
       some (.jal 4 5 0x1020), some (.beq 4 5 0x1020), some (.bne 4 5 0x1020),
       some (.blez 4 5 0x1020), some (.bgtz 4 5 0x1020)] := by
  decide

theorem test_decode_addi_to_lui :
    [0x20851020, 0x24851020, 0x28851020, 0x2C851020, 0x30851020, 0x34851020, 0x38851020, 0x3C851020].map (decodeTableWord 32) =
      [some (.addi 4 5 0x1020), some (.addiu 4 5 0x1020), some (.slti 4 5 0x1020),
       some (.sltiu 4 5 0x1020), some (.andi 4 5 0x1020), some (.ori 4 5 0x1020),
       some (.xori 4 5 0x1020), some (.lui 4 5 0x1020)] := by
  decide

theorem test_decode_cop0_to_daddi :
    [0x40851020, 0x44851020, 0x48851020, 0x50851020, 0x54851020, 0x58851020, 0x5C851020, 0x60851020].map (decodeTableWord 32) =
      [some (.cop0 4 5 0x1020), some (.cop1 4 5 0x1020), some (.cop2 4 5 0x1020),
       some (.beql 4 5 0x1020), some (.bnel 4 5 0x1020), some (.blezl 4 5 0x1020),
       some (.bgtzl 4 5 0x1020), some (.daddi 4 5 0x1020)] := by
  decide

theorem test_decode_daddiu_to_lbu :
    [0x64851020, 0x68851020, 0x6C851020, 0x80851020, 0x84851020, 0x88851020, 0x8C851020, 0x90851020].map (decodeTableWord 32) =
      [some (.daddiu 4 5 0x1020), some (.ldl 4 5 0x1020), some (.ldr 4 5 0x1020),
       some (.lb 4 5 0x1020), some (.lh 4 5 0x1020), some (.lwl 4 5 0x1020),
       some (.lw 4 5 0x1020), some (.lbu 4 5 0x1020)] := by
  decide

theorem test_decode_lhu_to_sdl :
    [0x94851020, 0x98851020, 0x9C851020, 0xA0851020, 0xA4851020, 0xA8851020, 0xAC851020, 0xB0851020].map (decodeTableWord 32) =
      [some (.lhu 4 5 0x1020), some (.lwr 4 5 0x1020), some (.lwu 4 5 0x1020),
       some (.sb 4 5 0x1020), some (.sh 4 5 0x1020), some (.swl 4 5 0x1020),
       some (.sw 4 5 0x1020), some (.sdl 4 5 0x1020)] := by
  decide

theorem test_decode_sdr_to_ldc1 :
    [0xB4851020, 0xB8851020, 0xBC851020, 0xC0851020, 0xC4851020, 0xC8851020, 0xD0851020, 0xD4851020].map (decodeTableWord 32) =
      [some (.sdr 4 5 0x1020), some (.swr 4 5 0x1020), some (.cache 4 5 0x1020),
       some (.ll 4 5 0x1020), some (.lwc1 4 5 0x1020), some (.lwc2 4 5 0x1020),
       some (.lld 4 5 0x1020), some (.ldc1 4 5 0x1020)] := by
  decide

theorem test_decode_ldc2_to_sdc2 :
    [0xD8851020, 0xDC851020, 0xE0851020, 0xE4851020, 0xE8851020, 0xF0851020, 0xF4851020, 0xF8851020].map (decodeTableWord 32) =
      [some (.ldc2 4 5 0x1020), some (.ld 4 5 0x1020), some (.sc 4 5 0x1020),
       some (.swc1 4 5 0x1020), some (.swc2 4 5 0x1020), some (.scd 4 5 0x1020),
       some (.sdc1 4 5 0x1020), some (.sdc2 4 5 0x1020)] := by
  decide

theorem test_decode_sd_to_sd :
    [0xFC851020].map (decodeTableWord 32) =
      [some (.sd 4 5 0x1020)] := by
  decide

/-- The reserved opcodes of R86, refused by name. -/
theorem test_decode_reserved_opcodes :
    [0x4C000000, 0x70000000, 0x74000000, 0x78000000, 0x7C000000, 0xCC000000, 0xEC000000].map (decodeTableWord 32) =
      [none, none, none, none, none, none, none] := by
  decide

theorem test_decode_refuses_by_name :
    (match decode ⟨.fetched, 0x4C000000⟩ with | .error e => some e | .ok _ => none) = some (.unlistedOpcode 19) := by
  decide

theorem test_no_word_of_33_bits : decodeTableWord 33 0 = none := by decide

theorem test_no_word_wider_than_its_bits : decodeTableWord 8 256 = none := by decide

/-- Every operation row is selected by its invocation (R89, log 9). -/
theorem test_decode_operations :
    [Operation.opcode, .rs, .rt, .rd, .imm, .offset, .immSignExtended, .offsetSignExtended].map
        (fun o => (decode ⟨o, 0x27BDFFF0⟩).toOption) =
      [some (.opcode 0x27BDFFF0), some (.rs 0x27BDFFF0), some (.rt 0x27BDFFF0), some (.rd 0x27BDFFF0),
       some (.imm 0x27BDFFF0), some (.offset 0x27BDFFF0), some (.immSignExtended 0x27BDFFF0),
       some (.offsetSignExtended 0x27BDFFF0)] := by
  decide

theorem test_decode_register_operations :
    [Operation.configDecode, .configLoad, .powerOnReset, .write, .statusDecode, .diagnosticStatusDecode,
        .interruptMaskDecode, .statusLoad, .modeDecode].map (fun o => (decode ⟨o, 0⟩).toOption) =
      [some (.configDecode 0), some (.configLoad 0), some .powerOnReset, some (.write 0), some (.statusDecode 0),
       some (.diagnosticStatusDecode 0), some (.interruptMaskDecode 0), some (.statusLoad 0), some (.modeDecode 0)] := by
  decide

/-! ## The instruction decoder (95_test_vectors.md section 2.1) -/

/-- DI3. -/
theorem test_opcode_addiu : resultOf (exec (.opcode 0x27BDFFF0) base) = some (.ok (.mnemonic .addiu)) := by decide

/-- DI5. -/
theorem test_opcode_unrecognized :
    viewsOf (exec (.opcode 0x7FFF7FFF) base) = some (base.cfg, base.st, some .unrecognizedInstruction) := by decide

/-- DI15: rs = 0 and rt = 0 are returned like any other index. -/
theorem test_rs_zero : resultOf (exec (.rs 0x0C000040) base) = some (.ok (.registerIndex 0)) := by decide

/-- DI13. -/
theorem test_rs : resultOf (exec (.rs 0x00851020) base) = some (.ok (.registerIndex 4)) := by decide

/-- DI13. -/
theorem test_rt : resultOf (exec (.rt 0x00851020) base) = some (.ok (.registerIndex 5)) := by decide

/-- DI13. -/
theorem test_rd : resultOf (exec (.rd 0x00851020) base) = some (.ok (.registerIndex 2)) := by decide

/-- DI4: 0x8000 is unsigned. -/
theorem test_imm : resultOf (exec (.imm 0x3C088000) base) = some (.ok (.immediate 0x8000)) := by decide

/-- DI2. -/
theorem test_offset : resultOf (exec (.offset 0xFFFFFFFF) base) = some (.ok (.immediate 0xFFFF)) := by decide

/-- DI4. -/
theorem test_imm_sign_extended :
    resultOf (exec (.immSignExtended 0x3C088000) base) = some (.ok (.signExtended 0xFFFFFFFFFFFF8000)) := by decide

/-- DI5: extracted whatever the opcode. -/
theorem test_offset_sign_extended :
    resultOf (exec (.offsetSignExtended 0x7FFF7FFF) base) = some (.ok (.signExtended 0x7FFF)) := by decide

/-- P1, step 4: BEQ, offset -2. -/
theorem test_present_beq :
    resultOf (exec (.beq 8 9 0xFFFE) base) = some (.ok (.decoder
      { opcode := .ok .beq, opcodeField := 4, rs := 8, rt := 9, rd := 31, imm := 0xFFFE,
        immSignExtended := 0xFFFFFFFFFFFFFFFE })) := by decide

/-- P1, step 3, delivered by the fetch stage after initialization. -/
theorem test_step_lw :
    resultOf (step (base.withFetchWord 32 0x8D090004)) = some (.ok (.decoder
      { opcode := .ok .lw, opcodeField := 35, rs := 8, rt := 9, rd := 0, imm := 4, immSignExtended := 4 })) := by decide

/-- DI8, delivered by the fetch stage: the decoder, not the model, refuses it. -/
theorem test_step_unrecognized :
    viewsOf (step (base.withFetchWord 32 0x4C000000)) = some (base.cfg, base.st, some .unrecognizedInstruction) := by
  decide

/-! ## Config (section 2.2, 2.3) -/

/-- DC5. -/
theorem test_config_decode :
    resultOf (exec (.configDecode 0x0000800B) base) = some (.ok (.config ⟨.normal, .big, true, true⟩)) := by decide

/-- DC13. -/
theorem test_config_decode_reserved :
    viewsOf (exec (.configDecode 0xFFFFFFFF) base) = some (base.cfg, base.st, some .invalidFieldValue) := by decide

/-- LD2. -/
theorem test_config_load :
    viewsOf (exec (.configLoad 0x06000000) { base with cfg := ⟨.normal, .big, false, false⟩ }) =
      some (⟨.dxxDxx, .little, false, true⟩, base.st, none) := by decide

/-- LD1. -/
theorem test_config_load_reserved :
    viewsOf (exec (.configLoad 0x01000000) { base with cfg := ⟨.normal, .big, true, false⟩ }) =
      some (⟨.normal, .big, true, false⟩, base.st, some .invalidFieldValue) := by decide

/-- PR2. -/
theorem test_power_on_reset :
    viewsOf (exec .powerOnReset { base with cfg := ⟨.dxxDxx, .little, true, false⟩ }) =
      some (⟨.normal, .big, true, false⟩, base.st, none) := by decide

/-- WR2: not InvalidFieldValue. -/
theorem test_write_reserved_code :
    viewsOf (exec (.write 0x01000000) base) = some (base.cfg, base.st, some .notImplemented) := by decide

/-! ## Status (section 2.4) -/

/-- DS11. -/
theorem test_status_decode :
    resultOf (exec (.statusDecode 0x70400004) base) = some (.ok (.status
      { statusInit with
        coprocessorUsability := #v[true, true, true, false]
        diagnosticStatus := { statusInit.diagnosticStatus with tlbGeneralExceptionVectorLocation := .bootstrap }
        errorLevel := true })) := by decide

/-- DS6. -/
theorem test_status_decode_reserved_mode :
    viewsOf (exec (.statusDecode 0xFFFFFFFF) base) = some (base.cfg, base.st, some .invalidFieldValue) := by decide

/-- P2, step 4. -/
theorem test_status_load :
    viewsOf (exec (.statusLoad 0x34000000) base) = some (base.cfg,
      { statusInit with coprocessorUsability := #v[true, true, false, false], additionalFpRegs := true }, none) := by
  decide

/-- P2, step 5. -/
theorem test_status_load_reserved_mode :
    viewsOf (exec (.statusLoad 0x00000018) base) = some (base.cfg, base.st, some .invalidFieldValue) := by decide

/-- DS19, DS22. -/
theorem test_diagnostic_status_decode :
    resultOf (exec (.diagnosticStatusDecode 0x00440000) base) = some (.ok (.diagnosticStatus
      ⟨false, false, false, true, .bootstrap⟩)) := by decide

/-- DS24, DS29: index 4 at bit 14, index 1 at bit 9. -/
theorem test_interrupt_mask_decode :
    resultOf (exec (.interruptMaskDecode 0x00004200) base) = some (.ok (.interruptMask
      ⟨false, #v[false, false, false, false, true], #v[false, true]⟩)) := by decide

/-- DS4. -/
theorem test_mode_decode : resultOf (exec (.modeDecode 0x00000010) base) = some (.ok (.mode .user)) := by decide

/-- DS5. -/
theorem test_mode_decode_reserved :
    resultOf (exec (.modeDecode 0x00000018) base) = some (.err .invalidFieldValue) := by decide

/-! ## The fault mark and reset -/

/-- P4: after the error the owner has no step, whatever is pending. -/
theorem test_no_step_after_a_fault :
    (match step { base with fault := some .notImplemented, pending := [⟨.rs, 0⟩] } with
      | .fault f => some f | _ => none) = some (.ownerHalted .notImplemented) := by decide

/-- The host's reset state is CP0 initialization (R200): the fields that are no draw. -/
theorem test_reset : (State.reset.st, State.reset.fault, State.reset.cfg.cu, State.reset.cfg.kseg0CacheEnabled) =
    (statusInit, none, false, false) := by decide

/-! ## Witnesses: a concrete state and operands that meet the hypotheses of each statement, each clause at a boundary -/

/-- The state `base` after a fault. -/
def halted : State := { base with fault := some .invalidFieldValue, result := some (.err .invalidFieldValue) }

/-- The state `base` with two invocations pending. -/
def queued : State := { base with pending := [⟨.fetched, 0xFFFFFFFF⟩, ⟨.powerOnReset, 0⟩] }

/-- The state `base` with a table that gives no opcode a mnemonic. -/
def noTable : State := { base with params := { base.params with opcodeTable := Vector.replicate 64 none } }

theorem base_unmarked : base.fault = none := rfl

theorem witness_OpcodeLooksUpTheTopSixBits :
    base.fault = none ∧ opcodeEntry base.params.opcodeTable ((0xFFFFFFFF#32).extractLsb' 26 6) = some .sd ∧
      opcodeEntry base.params.opcodeTable ((0x03FFFFFF#32).extractLsb' 26 6) = some .special ∧
      opcodeEntry base.params.opcodeTable ((0xEC000000#32).extractLsb' 26 6) = none := by decide

theorem witness_RegisterIndicesOfEveryWord :
    base.fault = none ∧ resultOf (exec (.rd 0xFFFFFFFF) base) = some (.ok (.registerIndex 31)) := by decide

theorem witness_ImmediateAndOffsetOfEveryWord :
    base.fault = none ∧ resultOf (exec (.imm 0xFFFFFFFF) base) = some (.ok (.immediate 0xFFFF)) := by decide

/-- Both signs at their boundary: 0x8000 and 0x7FFF (R108). -/
theorem witness_SignExtensionCopiesBit15 :
    base.fault = none ∧ (0x00008000#32).getLsbD 15 = true ∧ (0x00007FFF#32).getLsbD 15 = false := by decide

theorem witness_ExtractorsDependOnTheWordAlone :
    base.fault = none ∧ noTable.fault = none ∧ queued.fault = none ∧
      base.params.opcodeTable = queued.params.opcodeTable := ⟨rfl, rfl, rfl, rfl⟩

/-- RT3. -/
theorem witness_ExtractorsRecoverThePlacedFields :
    base.fault = none ∧ (0xA800#16).extractLsb' 11 5 = 21#5 ∧ 0xAAAAA800#32 = 0x2A#6 ++ 21#5 ++ 10#5 ++ 0xA800#16 := by
  decide

theorem witness_PrimaryRowsReturnTheDecoderOutputs :
    (⟨63, .sd, .sd⟩ : PrimaryRow) ∈ primaryRows ∧ (⟨0, .special, .special⟩ : PrimaryRow) ∈ primaryRows ∧
      base.fault = none ∧ opcodeEntry base.params.opcodeTable 63 = some .sd ∧
      opcodeEntry base.params.opcodeTable 0 = some .special := by
  refine ⟨?_, ?_, rfl, by decide, by decide⟩ <;> simp [primaryRows]

theorem witness_PrimaryRowsWithoutMnemonicRaise :
    (⟨63, .sd, .sd⟩ : PrimaryRow) ∈ primaryRows ∧ noTable.fault = none ∧
      opcodeEntry noTable.params.opcodeTable 63 = none := by
  refine ⟨?_, rfl, by decide⟩; simp [primaryRows]

theorem witness_Vr4300RowsYieldTheirOwnMnemonic :
    (⟨9, .addiu, .addiu⟩ : PrimaryRow) ∈ primaryRows ∧ base.fault = none ∧
      base.params.opcodeTable = opcodeTableVr4300 := by
  refine ⟨?_, rfl, rfl⟩; simp [primaryRows]

theorem witness_Vr4300ReservedOpcodesAreUnrecognized :
    base.fault = none ∧ base.params.opcodeTable = opcodeTableVr4300 := ⟨rfl, rfl⟩

/-- The three clauses: codes 0, 6 and a reserved neighbour of each. -/
theorem witness_ConfigDecodeReadsItsFields :
    base.fault = none ∧ (0x00000000#32).extractLsb' 24 4 = 0#4 ∧ (0x16000000#32).extractLsb' 24 4 = 6#4 ∧
      (0x01000000#32).extractLsb' 24 4 = 1#4 ∧ (0x07000000#32).extractLsb' 24 4 = 7#4 := by decide

/-- DC1 and DC8. -/
theorem witness_ConfigOperationsReadNoOtherBits :
    0x00000000#32 &&& 0x0F00800F#32 = 0xF0FF7FF0#32 &&& 0x0F00800F#32 := by decide

theorem witness_ConfigLoadReplacesTheWholeView :
    base.fault = none ∧ configDecode 0x0000000A = .ok ⟨.normal, .little, true, false⟩ ∧
      (0x0F000000#32).extractLsb' 24 4 ≠ 0#4 ∧ (0x0F000000#32).extractLsb' 24 4 ≠ 6#4 := by decide

theorem witness_PowerOnResetForcesTwoFieldsOnly : base.fault = none := base_unmarked

theorem witness_ConfigWriteAlwaysFailsNotImplemented : base.fault = none := base_unmarked

theorem witness_EveryOperationRaisesItsOwnErrorOnly :
    base.fault = none ∧ raisedError base.params (.write 0) = some .notImplemented ∧
      raisedError base.params (.rs 0) = none := by decide

/-- Both clauses: DS5 and DS7. -/
theorem witness_StatusDecodeReadsTheLayout :
    base.fault = none ∧ (0x00000018#32).extractLsb' 3 2 = 0b11#2 ∧ (0xFFFFFFE7#32).extractLsb' 3 2 ≠ 0b11#2 := by decide

/-- The three codes of the mode that are not `0b11`: DS7, DS3 and DS4. -/
theorem witness_DefaultLayoutBitPositions :
    base.fault = none ∧ base.params.statusLayout = statusLayoutVr4300 ∧ (0xFFFFFFE7#32).extractLsb' 3 2 = 0b00#2 ∧
      (0x00000008#32).extractLsb' 3 2 = 0b01#2 ∧ (0x00000010#32).extractLsb' 3 2 = 0b10#2 :=
  ⟨rfl, rfl, by decide⟩

/-- DS1 and DS8. -/
theorem witness_StatusOperationsReadNoIgnoredBit :
    base.params.statusLayout = statusLayoutVr4300 ∧ 0x00000000#32 &&& 0xFF74FFFF#32 = 0x008B0000#32 &&& 0xFF74FFFF#32 :=
  ⟨rfl, by decide⟩

theorem witness_SubRegisterDecodesAreTotal :
    base.fault = none ∧ succeeded (statusDecode base.params.statusLayout 0x0000FF00) = true := by decide

/-- The four codes. -/
theorem witness_ModeDecodeMapsThreeCodes :
    base.fault = none ∧ (0x00000000#32).extractLsb' 3 2 = 0b00#2 ∧ (0x00000008#32).extractLsb' 3 2 = 0b01#2 ∧
      (0x00000010#32).extractLsb' 3 2 = 0b10#2 ∧ (0x00000018#32).extractLsb' 3 2 = 0b11#2 := by decide

theorem witness_StatusLoadReplacesTheWholeView :
    base.fault = none ∧ succeeded (statusDecode base.params.statusLayout 0x34000000) = true ∧
      (0x0000001F#32).extractLsb' 3 2 = 0b11#2 := by decide

theorem witness_SourceScenarioHoldsForEveryLayout :
    base.fault = none ∧ base.params.statusLayout.avoidsFixedBits = true := by decide

theorem witness_ZeroWordDecodesToTheInitialStatus : base.fault = none := base_unmarked

theorem witness_OnlyLoadsAndResetWriteTheViews :
    (∃ t, exec (.rs 0) base = .next t) ∧ writesConfig (.rs 0) = false ∧
      writesStatus base.params.statusLayout (.rs 0) = false ∧ (∃ t, exec .powerOnReset base = .next t) :=
  ⟨exec_total _ rfl, rfl, rfl, exec_total _ rfl⟩

theorem witness_FailingOperationWritesNothing :
    ∃ t, exec (.write 0) base = .next t ∧ t.fault = some .notImplemented := ⟨_, rfl, rfl⟩

theorem witness_OwnerHasNoStepAfterAFault : halted.fault = some .invalidFieldValue := rfl

theorem base_mark : base.markMatchesResult := by
  intro e; constructor <;> intro h <;> cases h

theorem witness_StepKeepsTheMarkEqualToTheResult :
    base.markMatchesResult ∧ ∃ t, step base = .next t := ⟨base_mark, _, rfl⟩

theorem witness_StepKeepsStatusADecodedView :
    base.statusIsDecoded ∧ ∃ t, step base = .next t := ⟨⟨0, by decide⟩, _, rfl⟩

theorem witness_StepRunsTheDecodedInvocation :
    queued.fault = none ∧ queued.pending = ⟨.fetched, 0xFFFFFFFF⟩ :: [⟨.powerOnReset, 0⟩] ∧
      (decode ⟨.fetched, 0xFFFFFFFF⟩).toOption = some (.sd 31 31 0xFFFF) := by decide

/-- A listed and an unlisted word. -/
theorem witness_StepPresentsEveryFetchedWord :
    queued.fault = none ∧ queued.pending = ⟨.fetched, 0xFFFFFFFF⟩ :: [⟨.powerOnReset, 0⟩] ∧
      (base.withFetchWord 32 0x7FFF7FFF).pending = ⟨.fetched, 0x7FFF7FFF⟩ :: [] := by decide

theorem witness_StepWithNothingPendingIsIdle : base.fault = none ∧ base.pending = [] := ⟨rfl, rfl⟩

theorem witness_DeliveredWordRunsNext :
    base.fault = none ∧ decodeTableWord 32 0xFFFFFFFF = some (.sd 31 31 0xFFFF) := by decide

theorem witness_WellFormedInvocationsAreTheEncodings :
    Invocation.wf ⟨.fetched, 0x27BDFFF0⟩ = true ∧
      (decode ⟨.fetched, 0x27BDFFF0⟩).toOption = some (.addiu 29 29 0xFFF0) := by decide

theorem witness_NoOperationReadsTheLastResult : base.fault = none := base_unmarked

theorem witness_TheViewsGateNoOperation :
    (∃ t, exec (.statusLoad 0) base = .next t) ∧ writesStatus base.params.statusLayout (.statusLoad 0) = true ∧
      (∃ t, exec (.write 0) base = .next t) ∧ writesStatus base.params.statusLayout (.write 0) = false :=
  ⟨exec_total _ rfl, by decide, exec_total _ rfl, rfl⟩

theorem witness_RunsKeepTheParameters : ∃ t, core.run 1 base = .next t := ⟨_, rfl⟩

/-- All three clauses: no write, a load last, a reset last. -/
theorem witness_ConfigViewFollowsItsLastWrite :
    (∃ t, runAll [.rs 0] base = .next t) ∧ writesConfig (.rs 0) = false ∧
      (∃ t, runAll ([] ++ .configLoad 0 :: [.rs 0]) base = .next t) ∧
      configDecode 0 = .ok ⟨.normal, .little, false, true⟩ ∧
      (∃ t, runAll ([] ++ .powerOnReset :: [.rs 0]) base = .next t) :=
  ⟨⟨_, rfl⟩, rfl, ⟨_, rfl⟩, by decide, ⟨_, rfl⟩⟩

theorem witness_StatusViewFollowsItsLastLoad :
    (∃ t, runAll [.rs 0] base = .next t) ∧ writesStatus base.params.statusLayout (.rs 0) = false ∧
      (∃ t, runAll ([] ++ .statusLoad 0 :: [.rs 0]) base = .next t) ∧
      statusDecode base.params.statusLayout 0 = .ok statusInit :=
  ⟨⟨_, rfl⟩, rfl, ⟨_, rfl⟩, by decide⟩

theorem witness_DrawsVanishAfterTheFirstConfigWrite :
    writesConfig .powerOnReset = true ∧
      (∃ t, runAll [.powerOnReset] (State.init defaultParams .normal .big) = .next t) ∧
      (∃ t, runAll [.powerOnReset] (State.init defaultParams .dxxDxx .little) = .next t) :=
  ⟨rfl, ⟨_, rfl⟩, ⟨_, rfl⟩⟩

theorem witness_ConsumersReadTheNewValueAtOnce :
    base.fault = none ∧ configDecode 0 = .ok ⟨.normal, .little, false, true⟩ ∧
      statusDecode base.params.statusLayout 0 = .ok statusInit := by decide

end Sys2Proof.Tests
end

section
/-! PROOFS. The extractors of the instruction decoder (40_instruction_decoder.md R103 to R109). -/

namespace Sys2Proof.Machine

/-! ### The fields of a word -/

/-- The sign of the immediate is bit 15 of the word (R108). -/
theorem msb_immField (w : Word) : (immField w).msb = w.getLsbD 15 := by
  simp [immField, BitVec.getMsbD]

/-- `rd` lies in the immediate (R105). -/
theorem rdField_eq_extract_immField (w : Word) : rdField w = (immField w).extractLsb' 11 5 :=
  (BitVec.extractLsb'_extractLsb'_of_le (by omega)).symm

/-- The pseudocode of R108: 48 copies of bit 15 above the immediate. -/
theorem immSignExtendedField_eq_append (w : Word) :
    immSignExtendedField w =
      if w.getLsbD 15 then 0xFFFFFFFFFFFF#48 ++ immField w else 0#48 ++ immField w := by
  rw [immSignExtendedField, BitVec.signExtend_eq_append_of_le (by omega), msb_immField]
  cases w.getLsbD 15 <;> rfl

/-- The sign extension is the immediate read as a signed number (R108). -/
theorem toInt_immSignExtendedField (w : Word) :
    (immSignExtendedField w).toInt =
      if w.getLsbD 15 then ((immField w).toNat : Int) - 65536 else (immField w).toNat := by
  rw [immSignExtendedField, BitVec.toInt_signExtend_of_le (by omega), BitVec.toInt_eq_msb_cond, msb_immField]
  rfl

/-- The sign extension keeps the immediate in its low 16 bits (R108). -/
theorem extract_immSignExtendedField (w : Word) : (immSignExtendedField w).extractLsb' 0 16 = immField w := by
  rw [immSignExtendedField_eq_append]
  split <;> exact BitVec.extractLsb'_append_eq_right

/-! ### The operations under their second names -/

/-- `offset` is `imm` under a second name, in halted states too (R17, R107). -/
theorem exec_offset_eq_imm (w : Word) (s : State) : exec (.offset w) s = exec (.imm w) s := rfl

/-- `offset_sign_extended` is `imm_sign_extended` under a second name, in halted states too (R17, R109). -/
theorem exec_offsetSignExtended_eq_immSignExtended (w : Word) (s : State) :
    exec (.offsetSignExtended w) s = exec (.immSignExtended w) s := rfl

/-! ### The obligations -/

/-- Settles O4: the returned value is `immSignExtendedField w`, which R108 describes in three ways. -/
theorem signExtensionCopiesBit15 : Obligations.SignExtensionCopiesBit15 := by
  intro w s hlive
  refine ⟨immSignExtendedField w, ?_, ?_, ?_, ?_, ?_⟩
  · exact exec_ok hlive rfl
  · exact exec_offsetSignExtended_eq_immSignExtended w s
  · exact immSignExtendedField_eq_append w
  · exact toInt_immSignExtendedField w
  · exact extract_immSignExtendedField w

/-- Settles O2: each index is the operation's result (`exec_ok`), and `rd` is a slice of the immediate. -/
theorem registerIndicesOfEveryWord : Obligations.RegisterIndicesOfEveryWord := by
  intro w s hlive
  refine ⟨?rs, ?rt, ?rd, ?rdInImm⟩
  case rs => exact exec_ok hlive rfl
  case rt => exact exec_ok hlive rfl
  case rd => exact exec_ok hlive rfl
  case rdInImm => exact rdField_eq_extract_immField w

/-- Settles O3: the immediate is the operation's result (`exec_ok`), and `offset` is the same operation. -/
theorem immediateAndOffsetOfEveryWord : Obligations.ImmediateAndOffsetOfEveryWord :=
  fun w s hlive => ⟨exec_ok hlive rfl, exec_offset_eq_imm w s⟩

end Sys2Proof.Machine
end

section
/-! PROOFS. The power-on reset of the Config decoder (41_config_decoder.md R133). -/

namespace Sys2Proof.Machine

/-- `power_on_reset` cannot fail: it writes the reset view and returns done (R133). -/
theorem exec_powerOnReset {s : State} (hlive : s.fault = none) :
    exec .powerOnReset s = .next ((s.writeCfg (powerOnResetView s.cfg)).answer .done) :=
  exec_ok hlive rfl

/-- The fields forced by a first reset are the fields a second one would force (R133). -/
@[simp] theorem powerOnResetView_idempotent (v : ConfigView) :
    powerOnResetView (powerOnResetView v) = powerOnResetView v := rfl

/-- Writing the Config view again with the value it holds, and answering again, leaves an answered state as it is. -/
theorem State.answer_writeCfg_again (s : State) (c : ConfigView) (v : Value) :
    (((s.writeCfg c).answer v).writeCfg c).answer v = (s.writeCfg c).answer v := rfl

/-- A second `power_on_reset` leaves the state the first one answers (R133). -/
theorem exec_powerOnReset_again {s : State} (hlive : s.fault = none) :
    exec .powerOnReset ((s.writeCfg (powerOnResetView s.cfg)).answer .done) =
      .next ((s.writeCfg (powerOnResetView s.cfg)).answer .done) := by
  rw [exec_powerOnReset (by simpa using hlive)]
  simp [State.answer_writeCfg_again]

/-- Settles O14: both calls answer the state with the reset view written and done returned, which is the stated one field
by field. -/
theorem powerOnResetForcesTwoFieldsOnly : Obligations.PowerOnResetForcesTwoFieldsOnly := by
  intro s hlive
  refine ⟨(s.writeCfg (powerOnResetView s.cfg)).answer .done, ?first, ?second, ?fields⟩
  case first => exact exec_powerOnReset hlive
  case second => exact exec_powerOnReset_again hlive
  case fields => rfl

end Sys2Proof.Machine
end

section
/-! PROOFS. The Status decode and its mode (42_status_decoder.md R150, R154). -/

namespace Sys2Proof.Machine

/-! ### The mode code -/

/-- The one reserved mode code, `0b11`, is rejected (R154). -/
theorem modeDecode_reserved {code : BitVec 2} (hcode : code = 0b11#2) : modeDecode code = .err .invalidFieldValue :=
  (modeDecode_err_iff code .invalidFieldValue).mpr ⟨rfl, hcode⟩

/-- The three legal mode codes: what is neither Kernel's, Supervisor's nor the reserved code is User's (R154). -/
theorem modeDecode_legal {code : BitVec 2} (hcode : code ≠ 0b11#2) :
    modeDecode code = .ok (if code = 0b00#2 then .kernel else if code = 0b01#2 then .supervisor else .user) := by
  revert code
  decide

/-! ### The two operations that decode it -/

/-- `Status.decode` on the reserved mode code raises InvalidFieldValue (R150, R154, R185). -/
theorem exec_statusDecode_reserved {raw : Word} {s : State} (hlive : s.fault = none)
    (hcode : statusModeField raw = 0b11#2) : exec (.statusDecode raw) s = .next (s.raise .invalidFieldValue) := by
  have hdecode : statusDecode s.params.statusLayout raw = .err .invalidFieldValue :=
    (statusDecode_err_iff _ _ _).mpr ⟨rfl, hcode⟩
  exact exec_err hlive (congrArg (mapOk Value.status) hdecode)

/-- `Status.decode` where there is a view returns it (R150). -/
theorem exec_statusDecode_ok {raw : Word} {s : State} {v : StatusView} (hlive : s.fault = none)
    (hdecode : statusDecode s.params.statusLayout raw = .ok v) :
    exec (.statusDecode raw) s = .next (s.answer (.status v)) :=
  exec_ok hlive (congrArg (mapOk Value.status) hdecode)

/-- `Mode.decode` on the reserved mode code raises InvalidFieldValue (R154, R185). -/
theorem exec_modeDecode_reserved {raw : Word} {s : State} (hlive : s.fault = none)
    (hcode : statusModeField raw = 0b11#2) : exec (.modeDecode raw) s = .next (s.raise .invalidFieldValue) :=
  exec_err hlive (congrArg (mapOk Value.mode) (modeDecode_reserved hcode))

/-- `Mode.decode` where there is a mode returns it (R154). -/
theorem exec_modeDecode_ok {raw : Word} {s : State} {m : Mode} (hlive : s.fault = none)
    (hmode : modeDecode (statusModeField raw) = .ok m) : exec (.modeDecode raw) s = .next (s.answer (.mode m)) :=
  exec_ok hlive (congrArg (mapOk Value.mode) hmode)

/-! ### The obligations -/

/-- Settles O17: by the mode code, the one thing the decode can fail on. A legal code gives the view that
`statusDecode_of_mode` spells out, whose flags are the stated bits. -/
theorem statusDecodeReadsTheLayout : Obligations.StatusDecodeReadsTheLayout := by
  rintro raw s l hlive rfl
  by_cases hcode : raw.extractLsb' 3 2 = 0b11#2
  · rw [if_pos hcode]
    exact exec_statusDecode_reserved hlive hcode
  · rw [if_neg hcode]
    exact exec_statusDecode_ok hlive (statusDecode_of_mode (modeDecode_legal hcode))

/-- Settles O21: by the four mode codes. -/
theorem modeDecodeMapsThreeCodes : Obligations.ModeDecodeMapsThreeCodes := by
  intro raw s hlive
  have hcodes : ∀ code : BitVec 2, code = 0b00#2 ∨ code = 0b01#2 ∨ code = 0b10#2 ∨ code = 0b11#2 := by decide
  obtain hcode | hcode | hcode | hcode := hcodes (raw.extractLsb' 3 2)
  case inr.inr.inr =>
    rw [hcode]
    exact exec_modeDecode_reserved hlive hcode
  all_goals
    rw [hcode]
    exact exec_modeDecode_ok hlive (congrArg modeDecode hcode)

end Sys2Proof.Machine
end

section
/-! PROOFS. Which operation raises which error (60_exceptions.md R181, R184). -/

namespace Sys2Proof.Machine

/-! ### The conditions of the error table are the failures of the decodes -/

/-- A mapped result fails exactly where the result does, with the same error. -/
@[simp] theorem mapOk_eq_err_iff {α β : Type} (f : α → β) (r : Result α) (e : DecodeError) :
    mapOk f r = .err e ↔ r = .err e := by
  cases r <;> simp

/-- The opcode lookup fails as the table of R181 has it (R102). -/
theorem opcodeLookup_err_iff (p : Params) (w : Word) (e : DecodeError) :
    opcodeLookup p.opcodeTable w = .err e ↔ lookupError p w = some e := by
  rw [opcodeLookup, lookupError, opcodeField]
  cases opcodeEntry p.opcodeTable (w.extractLsb' 26 6) <;> simp

/-- The Config decode fails as the table of R181 has it (R130, R131). -/
theorem configDecode_err_iff_patternError (raw : Word) (e : DecodeError) :
    configDecode raw = .err e ↔ patternError raw = some e := by
  rw [configDecode_err_iff, patternError, configPatternField, Option.ite_none_right_eq_some, Option.some.injEq,
    and_comm, @eq_comm _ e]

/-- The mode decode fails as R154 says. -/
theorem modeDecode_err_iff_modeError (raw : Word) (e : DecodeError) :
    modeDecode (statusModeField raw) = .err e ↔ modeError raw = some e := by
  rw [modeDecode_err_iff, modeError, statusModeField, Option.ite_none_right_eq_some, Option.some.injEq,
    and_comm, @eq_comm _ e]

/-- The Status decode fails where its mode does (R150, R154). -/
theorem statusDecode_err_iff_modeError (l : StatusLayout) (raw : Word) (e : DecodeError) :
    statusDecode l raw = .err e ↔ modeError raw = some e := by
  rw [statusDecode_err_iff, ← modeDecode_err_iff, modeDecode_err_iff_modeError]

/-! ### The error of an operation -/

/-- An operation returns an error exactly where the error table gives it one, and that one (R181, R154). -/
theorem invocationResult_err_iff (p : Params) (i : Instr) (e : DecodeError) :
    invocationResult p (encode i) = .err e ↔ raisedError p i = some e := by
  unfold invocationResult raisedError
  cases (encode i).operation with
  | fetched | opcode => simp only [mapOk_eq_err_iff, opcodeLookup_err_iff]
  | configDecode | configLoad => simp only [mapOk_eq_err_iff, configDecode_err_iff_patternError]
  | statusDecode | statusLoad => simp only [mapOk_eq_err_iff, statusDecode_err_iff_modeError]
  | modeDecode => simp only [mapOk_eq_err_iff, modeDecode_err_iff_modeError]
  | _ => simp

/-- The row `write` alone has the selector of `write`. -/
theorem encode_operation_eq_write_iff (i : Instr) : (encode i).operation = .write ↔ ∃ data, i = .write data := by
  cases i with
  | write data => exact ⟨fun _ => ⟨data, rfl⟩, fun _ => rfl⟩
  | _ => simp [encode]

/-- NotImplemented is the error of `write` alone: every other row raises another error, or none (R181, R184). -/
theorem raisedError_eq_notImplemented_iff (p : Params) (i : Instr) :
    raisedError p i = some .notImplemented ↔ ∃ data, i = .write data := by
  rw [← encode_operation_eq_write_iff]
  unfold raisedError
  cases (encode i).operation with
  | fetched | opcode => simp [lookupError]
  | configDecode | configLoad => simp [patternError]
  | statusDecode | statusLoad | modeDecode => simp [modeError]
  | _ => simp

/-! ### The mark it leaves -/

/-- The writes to the view registers leave the mark alone. -/
@[simp] theorem invocationWrites_fault (inv : Invocation) (s : State) : (invocationWrites inv s).fault = s.fault := by
  unfold invocationWrites
  cases inv.operation with
  | configLoad => cases configDecode inv.word <;> rfl
  | statusLoad => cases statusDecode s.params.statusLayout inv.word <;> rfl
  | _ => rfl

/-- The mark after an operation is the error it raises (R181, R185). -/
theorem exec_fault_eq_raisedError {i : Instr} {s t : State} (hlive : s.fault = none) (hexec : exec i s = .next t) :
    t.fault = raisedError s.params i := by
  cases hresult : invocationResult s.params (encode i) with
  | err e =>
    obtain rfl : s.raise e = t := by simpa [exec_err hlive hresult] using hexec
    exact ((invocationResult_err_iff _ _ _).mp hresult).symm
  | ok v =>
    obtain rfl : (invocationWrites (encode i) s).answer v = t := by simpa [exec_ok hlive hresult] using hexec
    have hnone : raisedError s.params i = none :=
      Option.eq_none_iff_forall_ne_some.mpr fun e he => by
        simpa [hresult] using (invocationResult_err_iff _ _ _).mpr he
    simp [hlive, hnone]

/-! ### The obligation -/

/-- Settles O16: an unmarked state has a next one (`exec_total`), whose mark is the error of the table; that error is
NotImplemented for `write` alone. -/
theorem everyOperationRaisesItsOwnErrorOnly : Obligations.EveryOperationRaisesItsOwnErrorOnly := by
  intro i s hlive
  obtain ⟨t, hexec⟩ := exec_total i hlive
  have hmark := exec_fault_eq_raisedError hlive hexec
  refine ⟨t, hexec, hmark, ?_⟩
  rw [hmark]
  exact raisedError_eq_notImplemented_iff s.params i

end Sys2Proof.Machine
end

section
/-! PROOFS. Decode and encode (30_encoding.md R85, R86, R89): the rows of fetched words, the well-formed invocations,
and the words with no row. -/

namespace Sys2Proof.Machine

/-! ### The primary-opcode rows -/

/-- The primary-opcode row of an opcode (R85). -/
def primaryRowOf (op : BitVec 6) : Option PrimaryRow := primaryRows.find? fun r => r.code == op

/-- The row of an opcode is a row of the table, for that opcode. -/
theorem primaryRowOf_eq_some {op : BitVec 6} {r : PrimaryRow} (h : primaryRowOf op = some r) :
    r ∈ primaryRows ∧ r.code = op :=
  ⟨List.mem_of_find?_eq_some h, by simpa using List.find?_some h⟩

/-- The opcodes with no row are the seven of R86. -/
theorem primaryRowOf_eq_none_iff (op : BitVec 6) : primaryRowOf op = none ↔ op ∈ unlistedOpcodes := by
  revert op
  decide

/-- `decodePrimary` reads the table `primaryRows`: the row of bits 31:26, with the fields of the word (R85). -/
theorem decodePrimary_eq_map (w : Word) :
    decodePrimary w = (primaryRowOf (opcodeField w)).map fun r => r.row (rsField w) (rtField w) (immField w) := by
  rw [decodePrimary]
  obtain ⟨⟨code, hcode⟩⟩ := opcodeField w
  rw [BitVec.toNat_ofFin]
  interval_cases code <;> rfl

/-- A row is encoded as a fetched word of its opcode that holds its operands (R81, R85). -/
theorem encode_primaryRow {r : PrimaryRow} (hr : r ∈ primaryRows) (rs rt : BitVec 5) (imm : BitVec 16) :
    encode (r.row rs rt imm) = ⟨.fetched, assemble r.code rs rt imm⟩ := by
  fin_cases hr <;> rfl

/-! ### Decoding a fetched word -/

/-- A word has a row unless its opcode is one of the seven of R86. -/
theorem decodePrimary_eq_none_iff (w : Word) : decodePrimary w = none ↔ opcodeField w ∈ unlistedOpcodes := by
  rw [decodePrimary_eq_map, Option.map_eq_none_iff, primaryRowOf_eq_none_iff]

/-- The row of a word is encoded as that word: its fields cover it (R81). -/
theorem encode_of_decodePrimary {w : Word} {i : Instr} (h : decodePrimary w = some i) : encode i = ⟨.fetched, w⟩ := by
  rw [decodePrimary_eq_map] at h
  obtain ⟨r, hrow, rfl⟩ := Option.map_eq_some_iff.mp h
  obtain ⟨hmem, hcode⟩ := primaryRowOf_eq_some hrow
  rw [encode_primaryRow hmem, hcode, assemble_fields]

/-- The row of an assembled word has the operands that were placed in it. -/
theorem decodePrimary_assemble (op : BitVec 6) (rs rt : BitVec 5) (imm : BitVec 16) :
    decodePrimary (assemble op rs rt imm) = (primaryRowOf op).map fun r => r.row rs rt imm := by
  rw [decodePrimary_eq_map, opcodeField_assemble, rsField_assemble, rtField_assemble, immField_assemble]

/-- A fetched word decodes to its row. -/
theorem decode_fetched_eq_ok_iff (w : Word) (i : Instr) : decode ⟨.fetched, w⟩ = .ok i ↔ decodePrimary w = some i := by
  simp only [decode]
  cases decodePrimary w <;> simp

/-- A fetched word is refused where it has no row, by the name of its opcode (R86). -/
theorem decode_fetched_eq_error_iff (w : Word) (e : DecodeRefusal) :
    decode ⟨.fetched, w⟩ = .error e ↔ decodePrimary w = none ∧ e = .unlistedOpcode (opcodeField w) := by
  simp only [decode]
  cases decodePrimary w <;> simp [eq_comm]

/-- The word assembled for an opcode that has a row decodes to that row. -/
theorem decode_fetched_assemble {op : BitVec 6} {rs rt : BitVec 5} {imm : BitVec 16} {i : Instr}
    (hrow : ((primaryRowOf op).map fun r => r.row rs rt imm) = some i) :
    decode ⟨.fetched, assemble op rs rt imm⟩ = .ok i :=
  (decode_fetched_eq_ok_iff _ _).mpr ((decodePrimary_assemble op rs rt imm).trans hrow)

/-! ### Decode and encode are inverse -/

/-- Decoding undoes encoding: the selector names an operation row, and the opcode of the word a primary-opcode row. -/
theorem decode_encode (i : Instr) : decode (encode i) = .ok i := by
  cases i with
  | opcode | rs | rt | rd | imm | offset | immSignExtended | offsetSignExtended | configDecode | configLoad
  | powerOnReset | write | statusDecode | diagnosticStatusDecode | interruptMaskDecode | statusLoad | modeDecode => rfl
  | _ => exact decode_fetched_assemble rfl

/-- Encoding undoes decoding on the well-formed invocations, where the word of `power_on_reset` is 0 (R89). -/
theorem encode_of_decode {inv : Invocation} {i : Instr} (hwf : inv.wf = true) (h : decode inv = .ok i) :
    encode i = inv := by
  obtain ⟨op, w⟩ := inv
  cases op with
  | fetched => exact encode_of_decodePrimary ((decode_fetched_eq_ok_iff w i).mp h)
  | powerOnReset =>
    obtain rfl : w = 0 := by simpa [Invocation.wf] using hwf
    cases h
    rfl
  | _ =>
    cases h
    rfl

/-- A fetched word is well-formed where it decodes (R85). -/
theorem wf_iff_of_fetched {inv : Invocation} (hop : inv.operation = .fetched) :
    inv.wf = true ↔ ∃ i, decode inv = .ok i := by
  obtain ⟨op, w⟩ := inv
  obtain rfl : op = .fetched := hop
  simp only [decode_fetched_eq_ok_iff]
  exact Option.isSome_iff_exists

/-- Every encoding is well-formed. -/
theorem wf_encode (i : Instr) : (encode i).wf = true := by
  cases i with
  | opcode | rs | rt | rd | imm | offset | immSignExtended | offsetSignExtended | configDecode | configLoad
  | powerOnReset | write | statusDecode | diagnosticStatusDecode | interruptMaskDecode | statusLoad | modeDecode => rfl
  | _ => exact (wf_iff_of_fetched rfl).mpr ⟨_, decode_encode _⟩

/-- Every well-formed invocation decodes. -/
theorem exists_decode_of_wf {inv : Invocation} (hwf : inv.wf = true) : ∃ i, decode inv = .ok i := by
  obtain ⟨op, w⟩ := inv
  cases op with
  | fetched => exact (wf_iff_of_fetched rfl).mp hwf
  | _ => exact ⟨_, rfl⟩

/-! ### The obligations -/

/-- Settles O37: `decode_encode`, by the constructors of `Instr`. -/
theorem decodeOfEncodeIsTheInstruction : Obligations.DecodeOfEncodeIsTheInstruction := decode_encode

/-- Settles O38: a well-formed invocation decodes, and what it decodes to is encoded as it. -/
theorem wellFormedInvocationsAreTheEncodings : Obligations.WellFormedInvocationsAreTheEncodings := by
  intro inv
  refine ⟨⟨fun hwf => ?_, ?_⟩, fun i hwf => encode_of_decode hwf⟩
  · obtain ⟨i, hdecode⟩ := exists_decode_of_wf hwf
    exact ⟨i, encode_of_decode hwf hdecode⟩
  · rintro ⟨i, rfl⟩
    exact wf_encode i

/-- Settles O39: the operation rows accept every word, and a fetched word is refused where it has no row. -/
theorem unlistedOpcodesAreRefusedByName : Obligations.UnlistedOpcodesAreRefusedByName := by
  rintro ⟨op, w⟩ e
  cases op with
  | fetched =>
    rw [decode_fetched_eq_error_iff, decodePrimary_eq_none_iff, opcodeField]
    simp
  | _ => simp [decode]

/-- Settles O40: each word evaluates to the row its opcode names, and each selector to its operation. -/
theorem wordsOfTheSpecDecodeToTheirRows : Obligations.WordsOfTheSpecDecodeToTheirRows := by
  refine ⟨?_, ?_, ?_, ?_, ?_, ?_, rfl, rfl, rfl⟩ <;> decide

end Sys2Proof.Machine
end

section
/-! PROOFS. The fault mark (60_exceptions.md R185, R207): what an operation and a step can do to it, and what they can
do in a state that has it. -/

namespace Sys2Proof.Machine

/-! ### The mark and the result of one operation -/

/-- An operation that returns a value in an unmarked state leaves a mark and a result that agree. -/
theorem State.answer_markMatchesResult {s : State} (hlive : s.fault = none) (v : Value) :
    (s.answer v).markMatchesResult := by
  simp [State.markMatchesResult, hlive]

/-- An operation that raises an error leaves it in the mark and in the result. -/
theorem State.raise_markMatchesResult (s : State) (e : DecodeError) : (s.raise e).markMatchesResult := by
  simp [State.markMatchesResult]

/-- After every operation the mark is the error returned, whatever they were before. -/
theorem exec_markMatchesResult {i : Instr} {s t : State} (hexec : exec i s = .next t) : t.markMatchesResult := by
  obtain ⟨hlive, heffect⟩ := exec_next hexec
  cases heffect with
  | raised e ht => exact ht ▸ s.raise_markMatchesResult e
  | answered v _ _ ht => exact ht ▸ State.answer_markMatchesResult hlive v
  | configLoaded _ _ _ _ ht => exact ht ▸ State.answer_markMatchesResult hlive .done
  | configReset _ ht => exact ht ▸ State.answer_markMatchesResult hlive .done
  | statusLoaded _ _ _ _ ht => exact ht ▸ State.answer_markMatchesResult hlive .done

/-- After a word is presented to the decoder the mark is the error returned, whatever they were before. -/
theorem presentWord_markMatchesResult {w : Word} {s t : State} (hpresent : presentWord w s = .next t) :
    t.markMatchesResult := by
  obtain ⟨hlive, ⟨m, -, rfl⟩ | ⟨-, rfl⟩⟩ := presentWord_next hpresent
  · exact State.answer_markMatchesResult hlive _
  · exact s.raise_markMatchesResult _

/-- An operation that leaves the mark set raised that error, and did nothing else (R185). -/
theorem exec_eq_raise_of_fault {i : Instr} {s t : State} {e : DecodeError} (hexec : exec i s = .next t)
    (hmark : t.fault = some e) : t = s.raise e := by
  obtain ⟨hlive, heffect⟩ := exec_next hexec
  cases heffect with
  | raised e' ht =>
    obtain rfl : e' = e := by simpa [ht] using hmark
    exact ht
  | answered _ _ _ ht | configLoaded _ _ _ _ ht | configReset _ ht | statusLoaded _ _ _ _ ht =>
    simp [ht, hlive] at hmark

/-! ### A halted owner -/

/-- A halted owner has no step (R207). -/
theorem step_halted {s : State} {e : DecodeError} (hmark : s.fault = some e) : step s = .fault (.ownerHalted e) :=
  unlessHalted_halted hmark _

/-! ### The obligations -/

/-- Settles O29: a step changes nothing, or ends in an operation or in a word presented to the decoder, and these two
leave a mark that agrees with the result. -/
theorem stepKeepsTheMarkEqualToTheResult : Obligations.StepKeepsTheMarkEqualToTheResult := by
  intro s t hmatches hstep
  obtain ⟨-, ⟨-, rfl⟩ | ⟨inv, rest, -, ⟨i, -, hexec⟩ | hpresent⟩⟩ := step_next hstep
  · exact hmatches
  · exact exec_markMatchesResult hexec
  · exact presentWord_markMatchesResult hpresent

/-- Settles O30: at reset there is neither a mark nor a result. -/
theorem resetMarkEqualsTheResult : Obligations.ResetMarkEqualsTheResult := by
  intro e
  change State.reset.fault = some e ↔ State.reset.result = some (.err e)
  simp [State.reset]

/-- Settles O27: the marked next state is the one `State.raise` leaves. -/
theorem failingOperationWritesNothing : Obligations.FailingOperationWritesNothing :=
  fun _ _ _ _ hexec hmark => exec_eq_raise_of_fault hexec hmark

/-- Settles O28: a run stops where its first step does. -/
theorem ownerHasNoStepAfterAFault : Obligations.OwnerHasNoStepAfterAFault :=
  fun _ _ hmark => ⟨fun _ => exec_halted hmark, step_halted hmark, fun _ => run_fault (step_halted hmark)⟩

end Sys2Proof.Machine
end

section
/-! PROOFS. The instruction decoder (40_instruction_decoder.md): the opcode lookup, the independence and the round trip
of the extractors, and the 57 primary-opcode rows. -/

namespace Sys2Proof.Machine

/-! ### The opcode lookup -/

/-- The lookup of an opcode that the table names (R102). -/
theorem opcodeLookup_of_some {t : OpcodeTable} {w : Word} {m : Mnemonic}
    (h : opcodeEntry t (opcodeField w) = some m) : opcodeLookup t w = .ok m := by
  rw [opcodeLookup, h]

/-- The lookup of an opcode that the table does not name (R102). -/
theorem opcodeLookup_of_none {t : OpcodeTable} {w : Word} (h : opcodeEntry t (opcodeField w) = none) :
    opcodeLookup t w = .err .unrecognizedInstruction := by
  rw [opcodeLookup, h]

/-- `opcode` returns the mnemonic that the table gives (R102). -/
theorem exec_opcode_of_some {w : Word} {s : State} {m : Mnemonic} (hlive : s.fault = none)
    (h : opcodeEntry s.params.opcodeTable (opcodeField w) = some m) :
    exec (.opcode w) s = .next (s.answer (.mnemonic m)) :=
  exec_ok hlive (congrArg (mapOk Value.mnemonic) (opcodeLookup_of_some h))

/-- `opcode` raises UnrecognizedInstruction where the table gives nothing (R102, R185). -/
theorem exec_opcode_of_none {w : Word} {s : State} (hlive : s.fault = none)
    (h : opcodeEntry s.params.opcodeTable (opcodeField w) = none) :
    exec (.opcode w) s = .next (s.raise .unrecognizedInstruction) :=
  exec_err hlive (congrArg (mapOk Value.mnemonic) (opcodeLookup_of_none h))

/-- The VR4300 table has no mnemonic for exactly the opcodes with no row (R86). -/
theorem opcodeEntry_vr4300_eq_none_iff (op : BitVec 6) :
    opcodeEntry opcodeTableVr4300 op = none ↔ op ∈ unlistedOpcodes := by
  revert op
  decide

/-- The VR4300 table gives the opcode of each row the mnemonic of its name (R85). -/
theorem opcodeEntry_vr4300_of_row {r : PrimaryRow} (hr : r ∈ primaryRows) :
    opcodeEntry opcodeTableVr4300 r.code = some r.mnemonic := by
  revert r
  decide

/-! ### The field extractors -/

/-- A field extractor has one value for every state (R113). -/
theorem extractor_value_of_word {w : Word} {i : Instr}
    (hi : i ∈ [Instr.rs w, .rt w, .rd w, .imm w, .offset w, .immSignExtended w, .offsetSignExtended w]) :
    ∃ v, ∀ s : State, s.fault = none → exec i s = .next (s.answer v) := by
  fin_cases hi <;> exact ⟨_, fun s hlive => exec_ok hlive rfl⟩

/-! ### Presenting a word -/

/-- A row encoded as a fetched word presents that word to the decoder (R85, R100). -/
theorem exec_eq_presentWord {i : Instr} {w : Word} (h : encode i = ⟨.fetched, w⟩) (s : State) :
    exec i s = presentWord w s := by
  rw [exec_eq_finish, h]
  simp only [presentWord, finishPure, invocationResult, invocationWrites]

/-- A word whose opcode the table names gives that mnemonic, and the fields (R100). -/
theorem presentWord_of_some {w : Word} {s : State} {m : Mnemonic} (hlive : s.fault = none)
    (h : opcodeEntry s.params.opcodeTable (opcodeField w) = some m) :
    presentWord w s = .next (s.answer (.decoder
      { opcode := .ok m, opcodeField := opcodeField w, rs := rsField w, rt := rtField w, rd := rdField w,
        imm := immField w, immSignExtended := immSignExtendedField w })) := by
  rw [presentWord, decoderOutputs, opcodeLookup_of_some h, mapOk_ok, finishPure_ok hlive]

/-- A word whose opcode the table does not name raises UnrecognizedInstruction (R102, R183). -/
theorem presentWord_of_none {w : Word} {s : State} (hlive : s.fault = none)
    (h : opcodeEntry s.params.opcodeTable (opcodeField w) = none) :
    presentWord w s = .next (s.raise .unrecognizedInstruction) := by
  rw [presentWord, opcodeLookup_of_none h, mapOk_err, finishPure_err hlive]

/-- A row is its word presented to the decoder (R85, R100). -/
theorem exec_primaryRow {r : PrimaryRow} (hr : r ∈ primaryRows) (rs rt : BitVec 5) (imm : BitVec 16) (s : State) :
    exec (r.row rs rt imm) s = presentWord (assemble r.code rs rt imm) s :=
  exec_eq_presentWord (encode_primaryRow hr rs rt imm) s

/-- A row whose opcode the table names returns that mnemonic and its own operands (R100). -/
theorem exec_primaryRow_of_some {r : PrimaryRow} (hr : r ∈ primaryRows) (rs rt : BitVec 5) (imm : BitVec 16) {s : State}
    {m : Mnemonic} (hlive : s.fault = none) (h : opcodeEntry s.params.opcodeTable r.code = some m) :
    exec (r.row rs rt imm) s = .next (s.answer (.decoder
      { opcode := .ok m, opcodeField := r.code, rs := rs, rt := rt, rd := imm.extractLsb' 11 5, imm := imm,
        immSignExtended := imm.signExtend 64 })) := by
  have hword : opcodeEntry s.params.opcodeTable (opcodeField (assemble r.code rs rt imm)) = some m := by
    rwa [opcodeField_assemble]
  rw [exec_primaryRow hr, presentWord_of_some hlive hword]
  simp [rdField_assemble, immSignExtendedField]

/-! ### The obligations -/

/-- Settles O1: by what the table gives bits 31:26. -/
theorem opcodeLooksUpTheTopSixBits : Obligations.OpcodeLooksUpTheTopSixBits :=
  fun _ _ hlive => ⟨fun _ hentry => exec_opcode_of_some hlive hentry, fun hentry => exec_opcode_of_none hlive hentry⟩

/-- Settles O5: an extractor has one value for every state, and `opcode` one outcome for every table. -/
theorem extractorsDependOnTheWordAlone : Obligations.ExtractorsDependOnTheWordAlone := by
  intro w s t hs ht
  refine ⟨fun i hi => ?_, fun htable => ?_⟩
  · obtain ⟨v, hv⟩ := extractor_value_of_word hi
    exact ⟨v, hv s hs, hv t ht⟩
  · cases hentry : opcodeEntry s.params.opcodeTable (opcodeField w) with
    | some m => exact .inl ⟨_, exec_opcode_of_some hs hentry, exec_opcode_of_some ht (htable ▸ hentry)⟩
    | none => exact .inr ⟨_, exec_opcode_of_none hs hentry, exec_opcode_of_none ht (htable ▸ hentry)⟩

/-- Settles O6: the extractors return the fields of the word, which are those it was assembled from. -/
theorem extractorsRecoverThePlacedFields : Obligations.ExtractorsRecoverThePlacedFields := by
  rintro o a b _ i _ s hlive rfl rfl
  refine ⟨?rs, ?rt, ?rd, ?imm⟩
  case rs => exact exec_ok hlive (congrArg (Result.ok ∘ Value.registerIndex) (rsField_assemble o a b i))
  case rt => exact exec_ok hlive (congrArg (Result.ok ∘ Value.registerIndex) (rtField_assemble o a b i))
  case rd => exact exec_ok hlive (congrArg (Result.ok ∘ Value.registerIndex) (rdField_assemble o a b i))
  case imm => exact exec_ok hlive (congrArg (Result.ok ∘ Value.immediate) (immField_assemble o a b i))

/-- Settles O7: a row is its word presented to the decoder, whose fields are the operands. -/
theorem primaryRowsReturnTheDecoderOutputs : Obligations.PrimaryRowsReturnTheDecoderOutputs :=
  fun _ hr rs rt imm _ _ hlive hentry => exec_primaryRow_of_some hr rs rt imm hlive hentry

/-- Settles O8: the word of the row has the opcode of the row. -/
theorem primaryRowsWithoutMnemonicRaise : Obligations.PrimaryRowsWithoutMnemonicRaise := by
  intro r hr rs rt imm s hlive hentry
  rw [exec_primaryRow hr]
  exact presentWord_of_none hlive (by rwa [opcodeField_assemble])

/-- Settles O9: the VR4300 table names every row after its opcode. -/
theorem vr4300RowsYieldTheirOwnMnemonic : Obligations.Vr4300RowsYieldTheirOwnMnemonic := by
  intro r hr rs rt imm s hlive htable
  have hentry : opcodeEntry s.params.opcodeTable r.code = some r.mnemonic := htable ▸ opcodeEntry_vr4300_of_row hr
  exact ⟨_, rfl, exec_primaryRow_of_some hr rs rt imm hlive hentry⟩

/-- Settles O10: `opcode` leaves the error where the table has no entry, and the VR4300 table lacks the seven
opcodes. -/
theorem vr4300ReservedOpcodesAreUnrecognized : Obligations.Vr4300ReservedOpcodesAreUnrecognized := by
  intro w s hlive htable
  rw [← show unlistedOpcodes = [19, 28, 29, 30, 31, 51, 59] from rfl, ← opcodeEntry_vr4300_eq_none_iff, ← htable]
  cases hentry : opcodeEntry s.params.opcodeTable (w.extractLsb' 26 6) with
  | some m => simp [exec_opcode_of_some hlive hentry, hlive]
  | none => simp [exec_opcode_of_none hlive hentry]

end Sys2Proof.Machine
end

section
/-! PROOFS. One step (10_state.md R20): the invocation it issues and what the issue is. -/

namespace Sys2Proof.Machine

/-! ### Issuing an invocation -/

/-- An invocation that decodes is issued as its row. -/
theorem issue_of_decode {inv : Invocation} {i : Instr} (h : decode inv = .ok i) (s : State) :
    issue inv s = exec i s := by
  rw [issue, h]

/-- A fetched word is presented to the decoder, with and without a row of its own (R86, R102). -/
theorem issue_fetched (w : Word) (s : State) : issue ⟨.fetched, w⟩ s = presentWord w s := by
  cases hdecode : decode ⟨.fetched, w⟩ with
  | error e => rw [issue, hdecode]
  | ok i =>
    rw [issue_of_decode hdecode]
    exact exec_eq_presentWord (encode_of_decodePrimary ((decode_fetched_eq_ok_iff w i).mp hdecode)) s

/-! ### Stepping -/

/-- A step issues the first pending invocation, in the state with that invocation taken (R20, log 1). -/
theorem step_of_pending {s : State} {inv : Invocation} {rest : List Invocation} (hlive : s.fault = none)
    (hpending : s.pending = inv :: rest) : step s = issue inv { s with pending := rest } := by
  rw [step, unlessHalted_live hlive, State.takePending, hpending]

/-- A step with nothing pending is idle (log 1). -/
theorem step_of_no_pending {s : State} (hlive : s.fault = none) (hpending : s.pending = []) : step s = .next s := by
  rw [step, unlessHalted_live hlive, State.takePending, hpending]

/-- A bare word that decodes fits in its bits, and is read as a fetched word (log 9). -/
theorem decodeTableWord_eq_some {nbits w : Nat} {i : Instr} (h : decodeTableWord nbits w = some i) :
    w < 2 ^ nbits ∧ decode ⟨.fetched, BitVec.ofNat 32 w⟩ = .ok i := by
  rw [decodeTableWord, wordOfBits] at h
  split at h
  case h_2 => cases h
  case h_1 word hword =>
    split at hword
    case isFalse => cases hword
    case isTrue hfits =>
      cases hword
      refine ⟨hfits.2, ?_⟩
      cases hdecode : decode ⟨.fetched, BitVec.ofNat 32 w⟩ with
      | ok j => simpa [hdecode, Except.toOption] using h
      | error e => simp [hdecode, Except.toOption] at h

/-! ### The obligations -/

/-- Settles O33: a step is the issue of the invocation, and the issue is its row. -/
theorem stepRunsTheDecodedInvocation : Obligations.StepRunsTheDecodedInvocation := by
  intro s inv rest i hlive hpending hdecode
  rw [step_of_pending hlive hpending, issue_of_decode hdecode]

/-- Settles O35: there is nothing to take. -/
theorem stepWithNothingPendingIsIdle : Obligations.StepWithNothingPendingIsIdle :=
  fun _ hlive hpending => step_of_no_pending hlive hpending

/-- Settles O34: the step presents the word, with and without a row, and the table alone decides the outcome. -/
theorem stepPresentsEveryFetchedWord : Obligations.StepPresentsEveryFetchedWord := by
  intro w s rest hlive hpending
  rw [step_of_pending hlive hpending, issue_fetched]
  cases hentry : opcodeEntry s.params.opcodeTable (w.extractLsb' 26 6) with
  | some m => exact presentWord_of_some hlive hentry
  | none => exact presentWord_of_none hlive hentry

/-- Settles O36: the word delivered is the word that decoded, and the invocation taken leaves the state as it was. -/
theorem deliveredWordRunsNext : Obligations.DeliveredWordRunsNext := by
  intro s nbits w i hlive htable
  obtain ⟨hfits, hdecode⟩ := decodeTableWord_eq_some htable
  rw [State.withFetchWord_eq, Nat.mod_eq_of_lt hfits]
  exact (step_of_pending (s := s.pushPending _) hlive rfl).trans (issue_of_decode hdecode s)

end Sys2Proof.Machine
end

section
/-! PROOFS. The Config decoder (41_config_decoder.md): the decode, the bits it reads, the load and the `write` stub. -/

namespace Sys2Proof.Machine

/-! ### Words that agree under a mask -/

/-- Two words that agree under a mask agree on every bit of the mask. -/
theorem getLsbD_eq_of_and_eq {mask raw raw' : Word} (hagree : raw &&& mask = raw' &&& mask) {k : Nat}
    (hbit : mask.getLsbD k = true) : raw.getLsbD k = raw'.getLsbD k := by
  have hk : (raw &&& mask).getLsbD k = (raw' &&& mask).getLsbD k := by rw [hagree]
  simpa [hbit] using hk

/-- Two words that agree under a mask agree on every field inside the mask. -/
theorem extractLsb'_eq_of_and_eq {mask raw raw' : Word} (hagree : raw &&& mask = raw' &&& mask) {start len : Nat}
    (hbits : ∀ k < len, mask.getLsbD (start + k) = true) : raw.extractLsb' start len = raw'.extractLsb' start len := by
  refine BitVec.eq_of_getLsbD_eq fun k hk => ?_
  simp only [BitVec.getLsbD_extractLsb', hk, getLsbD_eq_of_and_eq hagree (hbits k hk)]

/-! ### Config.decode -/

/-- A reserved pattern code has no view (R130, R131). -/
theorem configDecode_reserved {raw : Word} (h0 : configPatternField raw ≠ 0) (h6 : configPatternField raw ≠ 6) :
    configDecode raw = .err .invalidFieldValue :=
  (configDecode_err_iff raw .invalidFieldValue).mpr ⟨rfl, h0, h6⟩

/-- `Config.decode` where there is a view returns it (R130). -/
theorem exec_configDecode_of_ok {raw : Word} {s : State} {v : ConfigView} (hlive : s.fault = none)
    (hdecode : configDecode raw = .ok v) : exec (.configDecode raw) s = .next (s.answer (.config v)) :=
  exec_ok hlive (congrArg (mapOk Value.config) hdecode)

/-- `Config.decode` where there is no view raises its error (R130, R185). -/
theorem exec_configDecode_of_err {raw : Word} {s : State} {e : DecodeError} (hlive : s.fault = none)
    (hdecode : configDecode raw = .err e) : exec (.configDecode raw) s = .next (s.raise e) :=
  exec_err hlive (congrArg (mapOk Value.config) hdecode)

/-- The Config decode reads bits 27:24, 15 and 3:0 only (R26). -/
theorem configDecode_congr {raw raw' : Word} (hagree : raw &&& 0x0F00800F#32 = raw' &&& 0x0F00800F#32) :
    configDecode raw = configDecode raw' := by
  have hpattern : configPatternField raw = configPatternField raw' := extractLsb'_eq_of_and_eq hagree (by decide)
  have hkseg0 : configKseg0Field raw = configKseg0Field raw' := extractLsb'_eq_of_and_eq hagree (by decide)
  have hendian : flagAt raw 15 = flagAt raw' 15 := getLsbD_eq_of_and_eq hagree (by decide)
  have hcu : flagAt raw 3 = flagAt raw' 3 := getLsbD_eq_of_and_eq hagree (by decide)
  simp only [configDecode, endiannessDecode, configCuFlag, configKseg0Flag, hpattern, hkseg0, hendian, hcu]

/-! ### Config.load -/

/-- `Config.load` where there is a view writes it (R132). -/
theorem exec_configLoad_of_ok {raw : Word} {s : State} {v : ConfigView} (hlive : s.fault = none)
    (hdecode : configDecode raw = .ok v) : exec (.configLoad raw) s = .next ((s.writeCfg v).answer .done) := by
  have hresult : invocationResult s.params (encode (.configLoad raw)) = .ok .done :=
    congrArg (mapOk fun _ => Value.done) hdecode
  rw [exec_ok hlive hresult]
  simp only [encode, invocationWrites, hdecode]

/-- `Config.load` where there is no view raises its error (R132, R185). -/
theorem exec_configLoad_of_err {raw : Word} {s : State} {e : DecodeError} (hlive : s.fault = none)
    (hdecode : configDecode raw = .err e) : exec (.configLoad raw) s = .next (s.raise e) :=
  exec_err hlive (congrArg (mapOk fun _ => Value.done) hdecode)

/-! ### The obligations -/

/-- Settles O11: by the pattern code. Codes 0 and 6 give the view that `configDecode_ok` spells out, whose flags are the
stated bits. -/
theorem configDecodeReadsItsFields : Obligations.ConfigDecodeReadsItsFields := by
  intro raw s hlive
  by_cases h0 : raw.extractLsb' 24 4 = 0#4
  · rw [if_pos h0]
    exact exec_configDecode_of_ok hlive (configDecode_ok (congrArg patternDecode h0))
  rw [if_neg h0]
  by_cases h6 : raw.extractLsb' 24 4 = 6#4
  · rw [if_pos h6]
    exact exec_configDecode_of_ok hlive (configDecode_ok (congrArg patternDecode h6))
  · rw [if_neg h6]
    exact exec_configDecode_of_err hlive (configDecode_reserved h0 h6)

/-- Settles O12: both operations read their word through the decode alone. -/
theorem configOperationsReadNoOtherBits : Obligations.ConfigOperationsReadNoOtherBits := by
  intro raw raw' s hagree
  simp only [exec, execConfigDecode, execConfigLoad, configDecode_congr hagree, and_self]

/-- Settles O13: by whether the word has a view. -/
theorem configLoadReplacesTheWholeView : Obligations.ConfigLoadReplacesTheWholeView :=
  fun _ _ hlive => ⟨fun _ hdecode => exec_configLoad_of_ok hlive hdecode,
    fun h0 h6 => exec_configLoad_of_err hlive (configDecode_reserved h0 h6)⟩

/-- Settles O15: the result of `write` is its error, whatever the data. -/
theorem configWriteAlwaysFailsNotImplemented : Obligations.ConfigWriteAlwaysFailsNotImplemented :=
  fun _ _ hlive => exec_err hlive rfl

end Sys2Proof.Machine
end

section
/-! PROOFS. The Status decoder (42_status_decoder.md): the bits of a layout, the words that set none of them, the load
and the view it leaves. -/

namespace Sys2Proof.Machine

/-! ### The bits of a layout -/

/-- The Status decode reads the positions of the layout, and bits 31, 4:3 and 0 (R28, R29). -/
theorem statusDecode_congr {l : StatusLayout} {raw raw' : Word}
    (hpositions : ∀ p ∈ l.positions, flagAt raw p = flagAt raw' p) (h31 : flagAt raw 31 = flagAt raw' 31)
    (hmode : statusModeField raw = statusModeField raw') (h0 : flagAt raw 0 = flagAt raw' 0) :
    statusDecode l raw = statusDecode l raw' := by
  simp [statusDecode, diagnosticStatusDecode, interruptMaskDecode, coprocessorUsabilityFlags, externalInterruptFlags,
    softwareInterruptFlags, interruptsEnabledFlag, hmode, h31, h0, hpositions, StatusLayout.positions]

/-- A word with no bit of the layout set, in mode Kernel, decodes to the initial view but for bits 31 and 0. -/
theorem statusDecode_of_flags_clear {l : StatusLayout} {raw : Word}
    (hpositions : ∀ p ∈ l.positions, flagAt raw p = false) (hmode : statusModeField raw = 0b00#2) :
    statusDecode l raw = .ok { statusInit with
      coprocessorUsability := #v[false, false, false, flagAt raw 31], interruptsEnabled := flagAt raw 0 } := by
  have hkernel : modeDecode (statusModeField raw) = .ok .kernel := congrArg modeDecode hmode
  rw [statusDecode_of_mode hkernel]
  simp [statusInit, diagnosticStatusDecode, interruptMaskDecode, coprocessorUsabilityFlags, externalInterruptFlags,
    softwareInterruptFlags, interruptsEnabledFlag, hpositions, StatusLayout.positions]

/-- The all-zero word decodes to the initial view, for every layout (R39). -/
theorem statusDecode_zero (l : StatusLayout) : statusDecode l 0#32 = .ok statusInit :=
  statusDecode_of_flags_clear (fun p _ => by simp [flagAt]) rfl

/-- A layout that avoids the fixed bits uses neither bit 31 nor bit 0 (R28). -/
theorem ne_31_and_ne_0_of_avoidsFixedBits {l : StatusLayout} (havoids : l.avoidsFixedBits = true) {p : Fin 32}
    (hp : p ∈ l.positions) : p ≠ 31 ∧ p ≠ 0 := by
  have hfixed := List.all_eq_true.mp havoids p hp
  simp only [Bool.and_eq_true, bne_iff_ne] at hfixed
  exact ⟨hfixed.1.1.1, hfixed.2⟩

/-- The word 0x80000001 sets bits 31 and 0 and no other. -/
theorem flagAt_scenario_word {p : Fin 32} (hp : p ≠ 31 ∧ p ≠ 0) : flagAt 0x80000001#32 p = false := by
  revert p
  decide

/-! ### Status.load -/

/-- The reserved mode code has no view (R150). -/
theorem statusDecode_reserved {raw : Word} (l : StatusLayout) (hcode : statusModeField raw = 0b11#2) :
    statusDecode l raw = .err .invalidFieldValue :=
  (statusDecode_err_iff l raw .invalidFieldValue).mpr ⟨rfl, hcode⟩

/-- `Status.load` where there is a view writes it (R153). -/
theorem exec_statusLoad_of_ok {raw : Word} {s : State} {v : StatusView} (hlive : s.fault = none)
    (hdecode : statusDecode s.params.statusLayout raw = .ok v) :
    exec (.statusLoad raw) s = .next ((s.writeSt v).answer .done) := by
  have hresult : invocationResult s.params (encode (.statusLoad raw)) = .ok .done :=
    congrArg (mapOk fun _ => Value.done) hdecode
  rw [exec_ok hlive hresult]
  simp only [encode, invocationWrites, hdecode]

/-- `Status.load` where there is no view raises its error (R153, R185). -/
theorem exec_statusLoad_of_err {raw : Word} {s : State} {e : DecodeError} (hlive : s.fault = none)
    (hdecode : statusDecode s.params.statusLayout raw = .err e) : exec (.statusLoad raw) s = .next (s.raise e) :=
  exec_err hlive (congrArg (mapOk fun _ => Value.done) hdecode)

/-! ### The Status view stays a decode -/

/-- An operation leaves the Status view, or replaces it by a decode (R153, R155). -/
theorem exec_statusIsDecoded {i : Instr} {s t : State} (hdecoded : s.statusIsDecoded) (hexec : exec i s = .next t) :
    t.statusIsDecoded := by
  obtain ⟨-, heffect⟩ := exec_next hexec
  cases heffect with
  | statusLoaded raw v _ hdecode ht => exact ht ▸ ⟨raw, hdecode⟩
  | raised _ ht | answered _ _ _ ht | configLoaded _ _ _ _ ht | configReset _ ht => exact ht ▸ hdecoded

/-- Presenting a word to the instruction decoder leaves the Status view. -/
theorem presentWord_statusIsDecoded {w : Word} {s t : State} (hdecoded : s.statusIsDecoded)
    (hpresent : presentWord w s = .next t) : t.statusIsDecoded := by
  obtain ⟨-, ⟨m, -, rfl⟩ | ⟨-, rfl⟩⟩ := presentWord_next hpresent <;> exact hdecoded

/-! ### The obligations -/

/-- Settles O18: the load writes the view that `statusDecode_of_mode` spells out, at the positions of the VR4300
layout. -/
theorem defaultLayoutBitPositions : Obligations.DefaultLayoutBitPositions := by
  intro raw s hlive hlayout hcode
  refine ⟨_, exec_statusLoad_of_ok hlive (statusDecode_of_mode (modeDecode_legal hcode)), ?_⟩
  rw [hlayout]
  refine ⟨rfl, rfl, rfl, rfl, rfl, ?vector, rfl, rfl, rfl, rfl, rfl, rfl, rfl, rfl, rfl, rfl, rfl, rfl, rfl⟩
  case vector =>
    change (if raw.getLsbD 22 then TlbVectorLocation.bootstrap else .normal) = .bootstrap ↔ raw.getLsbD 22 = true
    cases raw.getLsbD 22 <;> decide

/-- Settles O19: the mask has every position of the VR4300 layout and the bits that the source fixes. -/
theorem statusOperationsReadNoIgnoredBit : Obligations.StatusOperationsReadNoIgnoredBit := by
  intro raw raw' s hlayout hagree
  have hmask : ∀ p ∈ statusLayoutVr4300.positions, (0xFF74FFFF#32).getLsbD p = true := by decide
  have hdecode : statusDecode s.params.statusLayout raw = statusDecode s.params.statusLayout raw' := by
    rw [hlayout]
    exact statusDecode_congr (fun p hp => getLsbD_eq_of_and_eq hagree (hmask p hp))
      (getLsbD_eq_of_and_eq hagree (by decide)) (extractLsb'_eq_of_and_eq hagree (by decide))
      (getLsbD_eq_of_and_eq hagree (by decide))
  simp only [exec, execStatusDecode, execStatusLoad, hdecode, and_self]

/-- Settles O23: the word sets bits 31 and 0, which the layout avoids. -/
theorem sourceScenarioHoldsForEveryLayout : Obligations.SourceScenarioHoldsForEveryLayout := by
  intro s hlive havoids
  have hclear : ∀ p ∈ s.params.statusLayout.positions, flagAt 0x80000001#32 p = false :=
    fun p hp => flagAt_scenario_word (ne_31_and_ne_0_of_avoidsFixedBits havoids hp)
  exact exec_statusDecode_ok hlive (statusDecode_of_flags_clear hclear rfl)

/-- Settles O24: the all-zero word sets no bit of any layout. -/
theorem zeroWordDecodesToTheInitialStatus : Obligations.ZeroWordDecodesToTheInitialStatus :=
  fun s hlive => exec_statusDecode_ok hlive (statusDecode_zero s.params.statusLayout)

/-- Settles O31: a step is idle, an operation or a word presented, and only a load writes the view. -/
theorem stepKeepsStatusADecodedView : Obligations.StepKeepsStatusADecodedView := by
  intro s t hdecoded hstep
  obtain ⟨-, ⟨-, rfl⟩ | ⟨inv, rest, -, ⟨i, -, hexec⟩ | hpresent⟩⟩ := step_next hstep
  · exact hdecoded
  · exact exec_statusIsDecoded (s := { s with pending := rest }) hdecoded hexec
  · exact presentWord_statusIsDecoded (s := { s with pending := rest }) hdecoded hpresent

/-- Settles O32: the initial view is the decode of the all-zero word. -/
theorem initialStatusIsADecodedView : Obligations.InitialStatusIsADecodedView :=
  fun p _ _ => ⟨0#32, statusDecode_zero p.statusLayout⟩

/-- Settles O20: both decodes are total, and the Status view of the word holds their records. -/
theorem subRegisterDecodesAreTotal : Obligations.SubRegisterDecodesAreTotal := by
  rintro raw s l hlive rfl
  refine ⟨exec_ok hlive rfl, exec_ok hlive rfl, fun v hdecode => ?_⟩
  obtain ⟨_, _, _, hdiagnostic, hmask, _⟩ := statusDecode_ok_inv hdecode
  exact ⟨hdiagnostic, hmask⟩

/-- Settles O22: by whether the word has a view. -/
theorem statusLoadReplacesTheWholeView : Obligations.StatusLoadReplacesTheWholeView :=
  fun _ _ hlive => ⟨fun _ hdecode => exec_statusLoad_of_ok hlive hdecode,
    fun hcode => exec_statusLoad_of_err hlive (statusDecode_reserved _ hcode)⟩

end Sys2Proof.Machine
end

section
/-! PROOFS. The frame of an operation (10_state.md R34, R36): what it may write, and what its outcome does not
depend on. -/

namespace Sys2Proof.Machine

/-! ### Which operations write a view -/

/-- The operations that write the Config view (R34, R135). -/
theorem writesConfig_iff (i : Instr) :
    writesConfig i = true ↔ (∃ raw v, i = .configLoad raw ∧ configDecode raw = .ok v) ∨ i = .powerOnReset := by
  cases i with
  | configLoad raw => cases hdecode : configDecode raw <;> simp [writesConfig, encode, hdecode, succeeded]
  | powerOnReset => simp [writesConfig, encode]
  | _ => simp [writesConfig, encode]

/-- The operations that write the Status view (R155). -/
theorem writesStatus_iff (l : StatusLayout) (i : Instr) :
    writesStatus l i = true ↔ ∃ raw v, i = .statusLoad raw ∧ statusDecode l raw = .ok v := by
  cases i with
  | statusLoad raw => cases hdecode : statusDecode l raw <;> simp [writesStatus, encode, hdecode, succeeded]
  | _ => simp [writesStatus, encode]

/-! ### The next state of an operation -/

/-- The Config view after the writes of an operation: unchanged where there is nothing to write. -/
def configAfter (inv : Invocation) (c : ConfigView) : ConfigView :=
  match inv.operation with
  | .configLoad =>
    match configDecode inv.word with
    | .ok v => v
    | .err _ => c
  | .powerOnReset => powerOnResetView c
  | _ => c

/-- The Status view after the writes of an operation: unchanged where there is nothing to write. -/
def statusAfter (l : StatusLayout) (inv : Invocation) (st : StatusView) : StatusView :=
  match inv.operation with
  | .statusLoad =>
    match statusDecode l inv.word with
    | .ok v => v
    | .err _ => st
  | _ => st

/-- The next state of an operation, field by field: each view depends on itself and the parameters, the mark and the
result on the parameters alone, and the parameters and the queue stay. -/
def stateAfter (i : Instr) (s : State) : State where
  cfg := configAfter (encode i) s.cfg
  st := statusAfter s.params.statusLayout (encode i) s.st
  fault := raisedError s.params i
  params := s.params
  pending := s.pending
  result := some (invocationResult s.params (encode i))

/-- The writes of an operation are to the two views. -/
theorem invocationWrites_eq (inv : Invocation) (s : State) :
    invocationWrites inv s =
      { s with cfg := configAfter inv s.cfg, st := statusAfter s.params.statusLayout inv s.st } := by
  obtain ⟨op, w⟩ := inv
  simp only [invocationWrites, configAfter, statusAfter]
  cases op with
  | configLoad => cases configDecode w <;> rfl
  | statusLoad => cases statusDecode s.params.statusLayout w <;> rfl
  | _ => rfl

/-- An operation that fails has no writes (R185). -/
theorem invocationWrites_of_err {i : Instr} {s : State} {e : DecodeError}
    (hresult : invocationResult s.params (encode i) = .err e) : invocationWrites (encode i) s = s := by
  cases i with
  | configLoad raw =>
    have hdecode : configDecode raw = .err e := (mapOk_eq_err_iff _ _ _).mp hresult
    simp only [encode, invocationWrites, hdecode]
  | statusLoad raw =>
    have hdecode : statusDecode s.params.statusLayout raw = .err e := (mapOk_eq_err_iff _ _ _).mp hresult
    simp only [encode, invocationWrites, hdecode]
  | powerOnReset => cases hresult
  | _ => rfl

/-- In an unmarked state every operation answers its next state. -/
theorem exec_eq_stateAfter (i : Instr) {s : State} (hlive : s.fault = none) : exec i s = .next (stateAfter i s) := by
  cases hresult : invocationResult s.params (encode i) with
  | ok v =>
    have hexec := exec_ok hlive hresult
    rw [hexec, stateAfter, hresult, ← exec_fault_eq_raisedError hlive hexec, invocationWrites_eq]
    rfl
  | err e =>
    have hexec := exec_err hlive hresult
    have hwrites := invocationWrites_of_err hresult
    rw [invocationWrites_eq] at hwrites
    rw [hexec, stateAfter, hresult, ← exec_fault_eq_raisedError hlive hexec]
    nth_rw 1 [← hwrites]
    rfl

/-- An operation that answers a next state answers that one. -/
theorem eq_stateAfter_of_exec {i : Instr} {s t : State} (hexec : exec i s = .next t) : t = stateAfter i s := by
  rw [exec_eq_stateAfter i (exec_next hexec).1] at hexec
  cases hexec
  rfl

/-! ### What an operation leaves unchanged -/

/-- No operation changes the parameters (R204, log 3). -/
theorem exec_params {i : Instr} {s t : State} (hexec : exec i s = .next t) : t.params = s.params := by
  rw [eq_stateAfter_of_exec hexec]
  rfl

/-- No operation changes the owner's queue (log 1). -/
theorem exec_pending {i : Instr} {s t : State} (hexec : exec i s = .next t) : t.pending = s.pending := by
  rw [eq_stateAfter_of_exec hexec]
  rfl

/-- An operation that does not write the Config view leaves it. -/
theorem configAfter_of_not_writesConfig {i : Instr} (hwrites : writesConfig i = false) (c : ConfigView) :
    configAfter (encode i) c = c := by
  cases i with
  | configLoad raw =>
    cases hdecode : configDecode raw with
    | ok v => simp [writesConfig, encode, hdecode, succeeded] at hwrites
    | err e => simp [configAfter, encode, hdecode]
  | powerOnReset => cases hwrites
  | _ => rfl

/-- An operation that does not write the Status view leaves it. -/
theorem statusAfter_of_not_writesStatus {i : Instr} {l : StatusLayout} (hwrites : writesStatus l i = false)
    (st : StatusView) : statusAfter l (encode i) st = st := by
  cases i with
  | statusLoad raw =>
    cases hdecode : statusDecode l raw with
    | ok v => simp [writesStatus, encode, hdecode, succeeded] at hwrites
    | err e => simp [statusAfter, encode, hdecode]
  | _ => rfl

/-- Only the operations that `writesConfig` names change the Config view. -/
theorem exec_cfg {i : Instr} {s t : State} (hwrites : writesConfig i = false) (hexec : exec i s = .next t) :
    t.cfg = s.cfg := by
  rw [eq_stateAfter_of_exec hexec]
  exact configAfter_of_not_writesConfig hwrites s.cfg

/-- Only the operations that `writesStatus` names change the Status view. -/
theorem exec_st {i : Instr} {s t : State} (hwrites : writesStatus s.params.statusLayout i = false)
    (hexec : exec i s = .next t) : t.st = s.st := by
  rw [eq_stateAfter_of_exec hexec]
  exact statusAfter_of_not_writesStatus hwrites s.st

/-! ### What an operation does not depend on -/

/-- No operation reads the last result (log 2). -/
theorem exec_of_result (i : Instr) {s : State} (r : Option (Result Value)) (hlive : s.fault = none) :
    exec i { s with result := r } = exec i s :=
  (exec_eq_stateAfter i (s := { s with result := r }) hlive).trans (exec_eq_stateAfter i hlive).symm

/-- The state with another queue of pending invocations (log 1). -/
def State.withPending (q : List Invocation) (s : State) : State := { s with pending := q }

/-- No operation reads the owner's queue (log 1). -/
theorem exec_of_pending {i : Instr} {s t : State} (q : List Invocation) (hexec : exec i s = .next t) :
    exec i (s.withPending q) = .next (t.withPending q) := by
  rw [eq_stateAfter_of_exec hexec]
  exact exec_eq_stateAfter i (s := s.withPending q) (exec_next hexec).1

/-- An operation that does not write the Config view does not read it either. -/
theorem exec_of_cfg {i : Instr} {s t : State} (c : ConfigView) (hwrites : writesConfig i = false)
    (hexec : exec i s = .next t) : exec i (s.writeCfg c) = .next (t.writeCfg c) := by
  rw [eq_stateAfter_of_exec hexec, exec_eq_stateAfter i (s := s.writeCfg c) (exec_next hexec).1, stateAfter,
    configAfter_of_not_writesConfig hwrites]
  rfl

/-- A successful `Status.load` writes the same view over any other. -/
theorem statusAfter_of_writesStatus {i : Instr} {l : StatusLayout} (hwrites : writesStatus l i = true)
    (st st' : StatusView) : statusAfter l (encode i) st = statusAfter l (encode i) st' := by
  obtain ⟨raw, v, rfl, hdecode⟩ := (writesStatus_iff l i).mp hwrites
  simp only [statusAfter, encode, hdecode]

/-! ### The obligations -/

/-- Settles O26: clause by clause from `stateAfter`, but for the two fields that a reset keeps. -/
theorem onlyLoadsAndResetWriteTheViews : Obligations.OnlyLoadsAndResetWriteTheViews := by
  intro i s t hexec
  obtain ⟨hlive, -⟩ := exec_next hexec
  refine ⟨fun hwrites => exec_cfg hwrites hexec, fun hwrites => exec_st hwrites hexec, ?reset, ?mark, exec_params hexec,
    exec_pending hexec⟩
  case reset =>
    rintro rfl
    rw [exec_powerOnReset hlive] at hexec
    cases hexec
    exact ⟨rfl, rfl⟩
  case mark => exact fun hnone => by rw [exec_fault_eq_raisedError hlive hexec, hnone, hlive]

/-- Settles O41: `stateAfter` does not mention the last result. -/
theorem noOperationReadsTheLastResult : Obligations.NoOperationReadsTheLastResult :=
  fun i _ r hlive => exec_of_result i r hlive

/-- Settles O42: the result and the mark of `stateAfter` read the parameters alone, and a load writes the same view in
any state. -/
theorem theViewsGateNoOperation : Obligations.TheViewsGateNoOperation := by
  intro i s t c v hexec
  obtain ⟨hlive, -⟩ := exec_next hexec
  rw [eq_stateAfter_of_exec hexec]
  refine ⟨_, exec_eq_stateAfter i (s := { s with cfg := c, st := v }) hlive, rfl, rfl, ?loaded, ?kept⟩
  case loaded => exact fun hwrites => statusAfter_of_writesStatus hwrites v s.st
  case kept => exact fun hwrites => statusAfter_of_not_writesStatus hwrites v

end Sys2Proof.Machine
end

section
/-! PROOFS. Runs (20_memory.md R66): the order of the queue, the parameters, and what a sequence of operations leaves in
the views. -/

namespace Sys2Proof.Machine

/-! ### Sequences of operations -/

/-- A sequence stops where its first operation does. -/
theorem runAll_cons_fault {i : Instr} {ops : List Instr} {s : State} {f : Fault} (h : exec i s = .fault f) :
    runAll (i :: ops) s = .fault f := by
  rw [runAll, h]

/-- A sequence goes on where its first operation does. -/
theorem runAll_cons_next {i : Instr} {ops : List Instr} {s t : State} (h : exec i s = .next t) :
    runAll (i :: ops) s = runAll ops t := by
  rw [runAll, h]

/-- What every operation of a sequence keeps, the sequence keeps. -/
theorem runAll_invariant {I : State → Prop} {ops : List Instr} {s t : State}
    (hkeeps : ∀ i ∈ ops, ∀ u v, I u → exec i u = .next v → I v) (hs : I s) (hrun : runAll ops s = .next t) : I t := by
  induction ops generalizing s with
  | nil =>
    cases hrun
    exact hs
  | cons i ops ih =>
    obtain ⟨u, hexec, hrest⟩ := runAll_cons hrun
    exact ih (fun j hj => hkeeps j (.tail i hj)) (hkeeps i (.head ops) s u hs hexec) hrest

/-- A sequence of operations does not change the parameters (R204). -/
theorem runAll_params {ops : List Instr} {s t : State} (hrun : runAll ops s = .next t) : t.params = s.params :=
  runAll_invariant (I := fun u => u.params = s.params) (fun _ _ _ _ hu hexec => (exec_params hexec).trans hu) rfl hrun

/-- A sequence with no write of the Config view leaves it (R135). -/
theorem runAll_cfg {ops : List Instr} {s t : State} (hwrites : ∀ i ∈ ops, writesConfig i = false)
    (hrun : runAll ops s = .next t) : t.cfg = s.cfg :=
  runAll_invariant (I := fun u => u.cfg = s.cfg) (fun i hi _ _ hu hexec => (exec_cfg (hwrites i hi) hexec).trans hu)
    rfl hrun

/-- A sequence with no successful `Status.load` leaves the Status view (R155). -/
theorem runAll_st {l : StatusLayout} {ops : List Instr} {s t : State}
    (hwrites : ∀ i ∈ ops, writesStatus l i = false) (hrun : runAll ops s = .next t)
    (hlayout : s.params.statusLayout = l) : t.st = s.st := by
  refine (runAll_invariant (I := fun u => u.params.statusLayout = l ∧ u.st = s.st) ?_ ⟨hlayout, rfl⟩ hrun).2
  rintro i hi u v ⟨rfl, hst⟩ hexec
  exact ⟨congrArg Params.statusLayout (exec_params hexec), (exec_st (hwrites i hi) hexec).trans hst⟩

/-- The operation in the middle of a sequence, with the runs before and after it. -/
theorem runAll_middle {pre post : List Instr} {i : Instr} {s t : State} (hrun : runAll (pre ++ i :: post) s = .next t) :
    ∃ u v, runAll pre s = .next u ∧ exec i u = .next v ∧ runAll post v = .next t := by
  obtain ⟨u, hpre, hrest⟩ := runAll_append hrun
  obtain ⟨v, hexec, hpost⟩ := runAll_cons hrest
  exact ⟨u, v, hpre, hexec, hpost⟩

/-- Two states that `power_on_reset` would make equal end equal after any write of the Config view (R203): until then
they differ in the Config view alone, which no operation without such a write reads. -/
theorem runAll_eq_of_writesConfig {ops : List Instr} {s t t' : State} {c : ConfigView}
    (hview : powerOnResetView c = powerOnResetView s.cfg) (hwrites : ∃ i ∈ ops, writesConfig i = true)
    (hrun : runAll ops s = .next t) (hrun' : runAll ops (s.writeCfg c) = .next t') : t = t' := by
  induction ops generalizing s with
  | nil => simp at hwrites
  | cons i ops ih =>
    obtain ⟨u, hexec, hrest⟩ := runAll_cons hrun
    obtain ⟨u', hexec', hrest'⟩ := runAll_cons hrun'
    obtain ⟨hlive, -⟩ := exec_next hexec
    cases hi : writesConfig i with
    | true =>
      have hsame : exec i (s.writeCfg c) = exec i s := by
        obtain ⟨raw, v, rfl, hdecode⟩ | rfl := (writesConfig_iff i).mp hi
        · rw [exec_configLoad_of_ok (s := s.writeCfg c) hlive hdecode, exec_configLoad_of_ok hlive hdecode]
          rfl
        · rw [exec_powerOnReset (s := s.writeCfg c) hlive, exec_powerOnReset hlive, State.writeCfg_cfg, hview]
          rfl
      obtain rfl : u' = u := by simpa [hexec', hexec] using hsame
      simpa [hrest] using hrest'
    | false =>
      have hsame : exec i (s.writeCfg c) = .next (u.writeCfg c) := exec_of_cfg c hi hexec
      obtain rfl : u' = u.writeCfg c := by simpa [hexec'] using hsame
      refine ih ?_ (by simpa [hi] using hwrites) hrest hrest'
      rw [hview, exec_cfg hi hexec]

/-! ### Runs of the machine -/

/-- A step does not change the parameters (R204). -/
theorem step_params {s t : State} (hstep : step s = .next t) : t.params = s.params := by
  obtain ⟨-, ⟨-, rfl⟩ | ⟨inv, rest, -, ⟨i, -, hexec⟩ | hpresent⟩⟩ := step_next hstep
  · rfl
  · exact exec_params (s := s.withPending rest) hexec
  · obtain ⟨-, ⟨m, -, rfl⟩ | ⟨-, rfl⟩⟩ := presentWord_next hpresent <;> rfl

/-- A step whose first pending invocation is an encoding runs that operation, halted or not (R20, log 1). -/
theorem step_of_encoded (i : Instr) (s : State) (rest : List Invocation) :
    step (s.withPending (encode i :: rest)) = exec i (s.withPending rest) := by
  obtain hlive | ⟨e, hmark⟩ := s.fault.eq_none_or_eq_some
  · have hstep := step_of_pending (s := s.withPending (encode i :: rest)) hlive rfl
    exact hstep.trans (issue_of_decode (decode_encode i) _)
  · have hstep := step_halted (s := s.withPending (encode i :: rest)) hmark
    exact hstep.trans (exec_halted (s := s.withPending rest) hmark).symm

/-- A run over a queue of encodings is the sequence of its operations (R66): a halted owner stops both, and a first
operation that goes on leaves the rest of the queue to the rest of the run. -/
theorem run_encoded (ops : List Instr) (s : State) (rest : List Invocation) :
    core.run ops.length (s.withPending (ops.map encode ++ rest)) = runAll ops (s.withPending rest) := by
  induction ops generalizing s with
  | nil => rfl
  | cons i ops ih =>
    have hstep := step_of_encoded i s (ops.map encode ++ rest)
    obtain hlive | ⟨e, hmark⟩ := s.fault.eq_none_or_eq_some
    · obtain ⟨t, hexec⟩ := exec_total i (s := s.withPending rest) hlive
      have hpending : t.withPending rest = t := by
        rw [← show t.pending = rest from exec_pending hexec]
        rfl
      have hfirst : step (s.withPending ((i :: ops).map encode ++ rest)) =
          .next (t.withPending (ops.map encode ++ rest)) :=
        hstep.trans (exec_of_pending (s := s.withPending rest) _ hexec)
      have hlater : core.run ops.length (t.withPending (ops.map encode ++ rest)) = runAll ops t :=
        (ih t).trans (by rw [hpending])
      exact ((run_next hfirst).trans hlater).trans (runAll_cons_next hexec).symm
    · have hrun : runAll (i :: ops) (s.withPending rest) = .fault (.ownerHalted e) :=
        runAll_cons_fault (exec_halted hmark)
      exact (run_fault (hstep.trans (exec_halted hmark))).trans hrun.symm

/-! ### The obligations -/

/-- Settles O43, by induction on the number of steps. -/
theorem runsKeepTheParameters : Obligations.RunsKeepTheParameters := by
  intro k
  induction k with
  | zero =>
    intro s t hrun
    cases hrun
    rfl
  | succ k ih =>
    intro s t hrun
    obtain ⟨u, hstep, hrest⟩ := run_inv hrun
    exact (ih u t hrest).trans (step_params hstep)

/-- Settles O44: `run_encoded`, by induction on the list of operations. -/
theorem queueRunsInTheOrderIssued : Obligations.QueueRunsInTheOrderIssued := run_encoded

/-- Settles O45: the last write leaves its view, and the operations after it keep that view. -/
theorem configViewFollowsItsLastWrite : Obligations.ConfigViewFollowsItsLastWrite := by
  intro ops s t hrun
  refine ⟨fun hwrites => runAll_cfg hwrites hrun, ?loaded, ?reset⟩
  case loaded =>
    rintro pre post raw v rfl hdecode hwrites
    obtain ⟨u, u', -, hexec, hpost⟩ := runAll_middle hrun
    rw [exec_configLoad_of_ok (exec_next hexec).1 hdecode] at hexec
    cases hexec
    exact runAll_cfg hwrites hpost
  case reset =>
    rintro pre post rfl hwrites
    obtain ⟨u, u', hpre, hexec, hpost⟩ := runAll_middle hrun
    rw [exec_powerOnReset (exec_next hexec).1] at hexec
    cases hexec
    exact ⟨u, hpre, runAll_cfg hwrites hpost⟩

/-- Settles O46: the last load leaves its view, and the operations after it keep that view. -/
theorem statusViewFollowsItsLastLoad : Obligations.StatusViewFollowsItsLastLoad := by
  intro ops s t hrun
  refine ⟨fun hwrites => runAll_st hwrites hrun rfl, ?loaded⟩
  rintro pre post raw v rfl hdecode hwrites
  obtain ⟨u, u', hpre, hexec, hpost⟩ := runAll_middle hrun
  rw [← runAll_params hpre] at hdecode hwrites
  rw [exec_statusLoad_of_ok (exec_next hexec).1 hdecode] at hexec
  cases hexec
  exact runAll_st hwrites hpost rfl

/-- Settles O47: the two initial states differ in the Config view alone, and `power_on_reset` would make them equal. -/
theorem drawsVanishAfterTheFirstConfigWrite : Obligations.DrawsVanishAfterTheFirstConfigWrite :=
  fun _ p d d' e e' _ _ hwrites hrun hrun' =>
    runAll_eq_of_writesConfig (s := State.init p d e) (c := configInit d' e') rfl hwrites hrun hrun'

/-- Settles O25: the initial views are the stated ones field by field, and `power_on_reset` forces two of them. -/
theorem initializationThenPowerOnReset : Obligations.InitializationThenPowerOnReset := by
  refine ⟨⟨defaultParams, Config.cfgInitDtp, Config.cfgInitEndian, rfl⟩, fun p dtp endian => ⟨rfl, rfl, rfl, ?_⟩⟩
  exact ⟨_, exec_powerOnReset (State.init_fault p dtp endian), rfl, rfl, rfl⟩

/-- Settles O48: each consumer reads the view that was just written. -/
theorem consumersReadTheNewValueAtOnce : Obligations.ConsumersReadTheNewValueAtOnce := by
  intro s hlive
  refine ⟨fun raw v hdecode => ?_, ?_, fun raw v hdecode => ?_⟩
  · exact ⟨_, exec_configLoad_of_ok hlive hdecode, rfl⟩
  · exact ⟨_, exec_powerOnReset hlive, rfl⟩
  · exact ⟨_, exec_statusLoad_of_ok hlive hdecode, rfl, rfl⟩

end Sys2Proof.Machine
end
